-- ==== Sys2Proof/Word.lean ====
section
/-! DEFINITION. The word types of the part and the index types of its slots, heads and lanes. -/

namespace Sys2Proof

/-- A byte of a link frame or of a supply bus packet. -/
abbrev Byte := BitVec 8

/-- A 32-bit word: a nonce, a serial, a tag, a key word, a swath number. -/
abbrev Word := BitVec 32

/-- A cartridge socket, 0 to 11 (00_scope, "Slot"). -/
abbrev Slot := Fin 12

/-- A printhead, 0 to 3. -/
abbrev Head := Fin 4

/-- A lane of a head, 0 to 7. -/
abbrev Lane := Fin 8

/-- The lane map's index of a (head, lane) pair, 8 × head + lane (R158, table 3). -/
abbrev LaneIndex := Fin 32

end Sys2Proof
end

