-- ==== Sys2Proof/Syntax.lean ====
section
/-! DEFINITION. The commands of the part: one constructor for each row of spec/opcode_table.json, with the
operands the row's rule gives it. -/

namespace Sys2Proof

/-- The reason recorded with RESTART (R181). -/
inductive ResetCause where
  | power
  | pin
  deriving DecidableEq, Repr, Inhabited

/-- A 10-bit symbol of a link lane: a data byte or one of the three control symbols (The Print Link). -/
inductive Symbol where
  | start
  | stop   -- the spec's END
  | fill
  | data (byte : Byte)
  deriving DecidableEq, Repr, Inhabited

/-- A frame as received, between its START and its END: the envelope's fields but for the kind, which the
command names. The number of bytes received is the payload's length plus 6; `lengthField` is what the
sender wrote in the length field (R4). -/
structure RxFrame where
  destination : Byte
  lengthField : BitVec 16
  payload : List Byte
  crc : BitVec 16
  deriving DecidableEq, Repr, Inhabited

/-- The two kinds of frame that pass through from a controller further down the link (R10). -/
inductive PassKind where
  | reply
  | notice
  deriving DecidableEq, Repr, Inhabited

/-- What a DISCARDED_FRAME command receives (R1, R3, R5). -/
inductive Discarded where
  /-- One symbol on HEAD IN, which its receiver takes: it makes a frame incomplete, or belongs to one (R1; log entry
  16). -/
  | headSymbol (symbol : Symbol)
  /-- A whole frame on HEAD IN, all its bytes from the kind to the CRC. -/
  | headFrame (bytes : List Byte)
  /-- A whole frame on FMT IN, all its bytes from the kind to the CRC. -/
  | fmtFrame (bytes : List Byte)
  deriving DecidableEq, Repr, Inhabited

/-- One command of the part: a row of spec/opcode_table.json. -/
inductive Instr where
  /-- RESET (R181): power-on, or assertion of the RESET line. -/
  | reset (cause : ResetCause)
  /-- RESET_RELEASE (R181). -/
  | resetRelease
  /-- START_UP (R182): completion of the store read; the straps as they read at that moment (R16). -/
  | startUp (straps : BitVec 4)
  /-- LINK_SYMBOL (R13): a symbol on FMT IN. -/
  | linkSymbol (symbol : Symbol)
  /-- LINK_LOSS (R14): expiry of the link loss timer. -/
  | linkLoss
  /-- SWATH_OPEN (R19): a SWATH OPEN frame received on FMT IN. -/
  | swathOpen (frame : RxFrame)
  /-- FIRE (R24): a FIRE frame received on FMT IN. -/
  | fire (frame : RxFrame)
  /-- SWATH_CLOSE (R31): a SWATH CLOSE frame received on FMT IN. -/
  | swathClose (frame : RxFrame)
  /-- REQUEST_FRAME (R6): a REQUEST frame received on FMT IN. -/
  | requestFrame (frame : RxFrame)
  /-- HEAD_STATUS (R43): a HEAD STATUS frame received on HEAD IN. -/
  | headStatus (frame : RxFrame)
  /-- PASS_THROUGH_FRAME (R10): a REPLY or NOTICE received on HEAD IN. -/
  | passThroughFrame (kind : PassKind) (frame : RxFrame)
  /-- DOWNSTREAM_SEND_END (R9): the frame on HEAD OUT has ended. -/
  | downstreamSendEnd
  /-- UPSTREAM_SEND_END (R12): the frame on FMT OUT has ended. -/
  | upstreamSendEnd
  /-- TEMP_STALE (R47): expiry of a head's stale timer. -/
  | tempStale (head : Head)
  /-- LINE_GOES_PRESENT (R74, R76). -/
  | lineGoesPresent (slot : Slot)
  /-- LINE_GOES_ABSENT (R75, R76). -/
  | lineGoesAbsent (slot : Slot)
  /-- SEATING (R75, R93): expiry of the insert settle timer. -/
  | seating (slot : Slot)
  /-- REMOVAL (R76, R94): expiry of the removal settle timer. -/
  | removal (slot : Slot)
  /-- TRANSACTION_BEGIN (R81, R82). -/
  | transactionBegin
  /-- COMMAND_SENT (R84): the end of the command packet's last byte. -/
  | commandSent
  /-- SUPPLY_REPLY (R83): the bytes a chip has sent when its reply's last byte is received. -/
  | supplyReply (bytes : List Byte)
  /-- RESPONSE_TIMEOUT (R84): the response time has passed. -/
  | responseTimeout
  /-- BUS_STUCK (R85): a low stretch passes 10 ms. -/
  | busStuck
  /-- FAULT_END (R86): the release timer reaches 10 ms. -/
  | faultEnd
  /-- HOLDOFF_EXPIRY (R110). -/
  | holdoffExpiry (slot : Slot)
  /-- NOTICE_HOLDOFF_EXPIRY (R173). -/
  | noticeHoldoffExpiry
  /-- LOAD_TABLE (R159): the request at the front of the request queue is taken. So for every request below. -/
  | loadTable
  /-- READ_TABLE (R163). -/
  | readTable
  /-- LOCK_TABLE (R164). -/
  | lockTable
  /-- QUERY_SLOT (R165). -/
  | querySlot
  /-- QUERY_KNOWN (R165). -/
  | queryKnown
  /-- QUERY_STATUS (R166). -/
  | queryStatus
  /-- EVENTS_READ (R171). -/
  | eventsRead
  /-- EVENTS_CLEAR (R171). -/
  | eventsClear
  /-- EVENTS_ENABLE (R170). -/
  | eventsEnable
  /-- NOTICES_ON (R174). -/
  | noticesOn
  /-- NOTICES_OFF (R174). -/
  | noticesOff
  /-- REAUTHENTICATE_SLOT (R167). -/
  | reauthenticateSlot
  /-- COMMIT_SLOT (R167). -/
  | commitSlot
  /-- PARK (R175). -/
  | park
  /-- PARKING_COPIES (R176). -/
  | parkingCopies
  /-- RESUME (R178). -/
  | resume
  /-- SAVE_STORE (R180). -/
  | saveStore
  /-- SAVE_COMPLETE (R180): the KNOWN section has been written. -/
  | saveComplete
  /-- LINK_RESET (R15). -/
  | linkReset
  /-- UNKNOWN_REQUEST (R157). -/
  | unknownRequest
  /-- DISCARDED_FRAME (R5). -/
  | discardedFrame (what : Discarded)
  /-- BUS_LINE_RELEASED (R86). -/
  | busLineReleased
  /-- BUS_LINE_PULLED_LOW (R85). -/
  | busLinePulledLow
  /-- SECTION_WRITTEN (R180): the CONFIG or KEYS section has been written. -/
  | sectionWritten
  deriving DecidableEq, Repr, Inhabited

end Sys2Proof
end

