-- ==== Sys2Proof/Machine/Types.lean ====
section
/-! DEFINITION. The types of the part's state, block by block (00_scope.md, "Organisation of the Part"). -/

namespace Sys2Proof.Machine

/-! ### The Print Link -/

/-- The seven frame kinds (The Frame Envelope). -/
inductive FrameKind where
  | swathOpen | fire | swathClose | request | reply | notice | headStatus
  deriving DecidableEq, Repr, Inhabited

/-- A whole frame held in a queue or being sent. Its length field is its payload's length: R4 has checked it,
or R8 has set it. -/
structure Frame where
  kind : FrameKind
  destination : Byte
  payload : List Byte
  crc : BitVec 16
  deriving DecidableEq, Repr, Inhabited

/-- The Link Interface's state (R16). -/
structure Link where
  /-- The strap value, sampled as reset ends (R6). -/
  strap : BitVec 4
  /-- FMT IN's receiver: `none` waits for START, `some bytes` is within a frame (R1). -/
  receiver : Option (List Byte)
  /-- HEAD IN's receiver, as FMT IN's (R1, R16). -/
  headReceiver : Option (List Byte)
  /-- The link state: UP or DOWN (R13). -/
  up : Bool
  /-- The link loss timer: stopped, or running for the length it was started with, in ms (R13). -/
  lossTimer : Option Nat
  /-- The link CRC error count (R5). -/
  crcErrors : Nat
  /-- The forward queue, oldest first (R7). -/
  forward : List Frame
  /-- The pass-through queue, oldest first (R10). -/
  passThrough : List Frame
  /-- The reply queue, oldest first (R11). -/
  replies : List Frame
  /-- HEAD OUT: the frame being sent, or FILL (R9). -/
  downTx : Option Frame
  /-- FMT OUT: the frame being sent, or FILL (R12). -/
  upTx : Option Frame
  deriving DecidableEq, Repr

/-! ### The Swath Path -/

/-- What is done to a slot's firing data, in order of strictness (R23). -/
inductive Action where
  | pass | thin | blank
  deriving DecidableEq, Repr, Inhabited

/-- The drops counted for one (head, lane), by size (R29). -/
structure DropCount where
  small : Nat
  medium : Nat
  large : Nat
  deriving DecidableEq, Repr, Inhabited

/-- What the descriptor holds of a head of the head set (R17). -/
structure HeadUse where
  /-- The waveform set. -/
  wave : Fin 4
  /-- The compensation factor, in units of 1/1024. -/
  factor : Nat
  deriving DecidableEq, Repr, Inhabited

/-- The descriptor of the open swath (R17). -/
structure Descriptor where
  number : Word
  columns : Nat
  heads : Vector (Option HeadUse) 4
  /-- The service windows after clipping (R18): first and last column. -/
  windows : List (Nat × Nat)
  deriving DecidableEq, Repr

/-- The Swath Path's state (R17). The swath state is OPEN exactly while a descriptor is held. -/
structure SwathPath where
  descriptor : Option Descriptor
  /-- The refused-swath marker. -/
  refused : Bool
  /-- Columns taken, for each (head, lane). -/
  taken : Vector Nat 32
  /-- Drops counted, for each (head, lane). -/
  drops : Vector DropCount 32
  latched : Vector Action 12
  /-- The number of the last swath opened. -/
  lastNumber : Word
  deriving DecidableEq, Repr

/-- One line of a closing record (R33). -/
structure RecordLine where
  head : Head
  lane : Lane
  slot : Slot
  wave : Fin 4
  factor : Nat
  count : DropCount
  deriving DecidableEq, Repr

/-! ### The Temperature Tracker -/

/-- A head's record (R42). Temperatures are signed counts of half-degrees. -/
structure HeadRecord where
  tracked : Int
  neverReported : Bool
  stale : Bool
  /-- The stale timer: stopped, or running for the length it was started with, in ms (R47). -/
  staleTimer : Option Nat
  deriving DecidableEq, Repr, Inhabited

/-! ### The Supply Table -/

/-- The ten slot states (R91). -/
inductive SlotState where
  | empty | settling | identifying | authenticating | holdoff
  | genuine | suspect | foreign | misplaced | reused
  deriving DecidableEq, Repr, Inhabited

/-- The level bands (R65). -/
inductive Band where
  | none | normal | low | reserve | out
  deriving DecidableEq, Repr, Inhabited

/-- The five fields of an IDENTIFY reply (Packets). -/
structure Identity where
  serial : Word
  product : BitVec 16
  colours : Byte
  generation : Byte
  /-- The stated capacity, in nL. -/
  capacity : Nat
  deriving DecidableEq, Repr, Inhabited

/-- The binding of a slot (R90, R99). Its Known Cartridge List entry is the one with the identity's serial: no
two entries hold the same serial (R133). -/
structure Binding where
  identity : Identity
  classIndex : Fin 16
  deriving DecidableEq, Repr, Inhabited

/-- A slot's record, less the commit record and the latched action, which their owners hold (R90). -/
structure SlotRecord where
  state : SlotState
  binding : Option Binding
  proven : Bool
  allowance : Nat
  attempts : Nat
  /-- The hold-off round. -/
  round : Nat
  /-- The hold-off timer: stopped, or running for the length it was started with, in ms. -/
  holdoff : Option Nat
  /-- The re-authentication countdown, in swaths. -/
  countdown : Nat
  /-- The cartridge level L, in nL. -/
  level : Option Nat
  /-- The pending debit, in nL. -/
  pendingDebit : Nat
  band : Band
  deriving DecidableEq, Repr, Inhabited

/-! ### The Supply Bus Master -/

/-- What a LEAVING watch remembers (R73). -/
inductive Before where
  | arriving | seated
  deriving DecidableEq, Repr, Inhabited

/-- A presence watch (R73). In ARRIVING and LEAVING the settle timer runs for the length it was started with, in ms; it is
stopped there only by a reset (R181). -/
inductive Watch where
  | disabled
  | quiet
  | arriving (settle : Option Nat)
  | seated
  | leaving (before : Before) (settle : Option Nat)
  deriving DecidableEq, Repr, Inhabited

/-- The three supply bus transactions. -/
inductive BusKind where
  | identify | challenge | debit
  deriving DecidableEq, Repr, Inhabited

/-- A request of the transaction queue (R80). Its age is its place in the queue. -/
structure BusRequest where
  slot : Slot
  kind : BusKind
  deriving DecidableEq, Repr, Inhabited

/-- How far the transaction in flight has got on the line (R82, R84). -/
inductive FlightStage where
  /-- The line is held low: the command waits for its release (R82). -/
  | waiting
  /-- The command packet is being sent. -/
  | sending
  /-- The command has been sent and the response time runs (R84). -/
  | awaiting
  deriving DecidableEq, Repr, Inhabited

/-- The transaction in flight (R82). -/
structure Flight where
  slot : Slot
  kind : BusKind
  /-- The nonce sent (0 for IDENTIFY, which sends none). -/
  nonce : Word
  /-- The amount sent (0 but for DEBIT). -/
  amount : Nat
  stage : FlightStage
  /-- The command packet, with its CRC-8. -/
  packet : List Byte
  /-- The slot has been purged since the transaction began (R88). -/
  slotLeft : Bool
  deriving DecidableEq, Repr, Inhabited

/-- The bus state (R82, R83, R85, R86). -/
inductive BusStatus where
  | idle | busy | fault
  deriving DecidableEq, Repr, Inhabited

/-- The Supply Bus Master's state (R89). -/
structure Bus where
  queue : List BusRequest
  flight : Option Flight
  status : BusStatus
  /-- A low stretch is being timed (R85). -/
  lowTiming : Bool
  /-- The release timer runs (R86). -/
  releaseTimer : Bool
  watches : Vector Watch 12
  deriving DecidableEq, Repr

/-- The outcome of a transaction (R87). -/
inductive BusOutcome where
  | replied (fields : List Byte)
  | timeout
  | busFault
  deriving DecidableEq, Repr, Inhabited

/-! ### The Commit Unit -/

/-- The phase of a commit record, with the fields present in it (R117). -/
inductive CommitPhase where
  | idle
  | waiting
  | inFlight (amount : Nat) (nonce : Word) (preLevel : Nat) (serial : Word) (classIndex : Fin 16)
  | inDoubt (amount : Nat) (preLevel : Nat)
  deriving DecidableEq, Repr, Inhabited

/-- A slot's commit record (R117). -/
structure CommitRecord where
  phase : CommitPhase
  /-- The follow-on mark (R120). -/
  followOn : Bool
  deriving DecidableEq, Repr, Inhabited

/-- The orphan record (R117, R128). -/
structure Orphan where
  slot : Slot
  amount : Nat
  nonce : Word
  preLevel : Nat
  serial : Word
  classIndex : Fin 16
  deriving DecidableEq, Repr, Inhabited

/-- The Commit Unit's state (R117). -/
structure CommitUnit where
  records : Vector CommitRecord 12
  orphan : Option Orphan
  deriving DecidableEq, Repr

/-! ### The Integrity Monitor -/

/-- An in-doubt part: a DEBIT whose outcome was not observed (R134). -/
structure InDoubt where
  amount : Nat
  preLevel : Nat
  deriving DecidableEq, Repr, Inhabited

/-- An entry of the Known Cartridge List (R134). -/
structure Entry where
  serial : Word
  product : BitVec 16
  generation : Byte
  lastLevel : Option Nat
  unsettled : Nat
  inDoubt : Option InDoubt
  /-- The suspicion count. -/
  count : Nat
  exhausted : Bool
  /-- The suspect mark. -/
  suspect : Bool
  /-- IN SLOT n, or OUT. -/
  residence : Option Slot
  carried : Option Nat
  /-- The refurbishment finding. -/
  refurbished : Bool
  deriving DecidableEq, Repr, Inhabited

/-! ### The tables -/

/-- The nine tables (R158). -/
inductive TableId where
  | drop | curve | lanes | thin | policy | classes | keys | sockets | settings
  deriving DecidableEq, Repr, Inhabited

/-- A point of the compensation curve (R49). -/
structure CurvePoint where
  temperature : Int
  factor : Nat
  deriving DecidableEq, Repr, Inhabited

/-- An entry of the genuine class table (R158, table 6). -/
structure ClassEntry where
  valid : Bool
  code : BitVec 16
  mask : BitVec 16
  colours : Byte
  keyIndex : Fin 8
  /-- The capacity ceiling, in nL. -/
  ceiling : Nat
  /-- The low mark, per mille. -/
  low : Nat
  /-- The reserve mark, per mille. -/
  reserve : Nat
  deriving DecidableEq, Repr, Inhabited

/-- A key: the words K0 to K3 (R158, table 7). -/
structure Key where
  k0 : Word
  k1 : Word
  k2 : Word
  k3 : Word
  deriving DecidableEq, Repr, Inhabited

/-- An entry of the slot configuration table (R158, table 8). -/
structure SocketConfig where
  enabled : Bool
  /-- The required colour bits. -/
  colours : Byte
  deriving DecidableEq, Repr, Inhabited

/-- The lock set: the lockable tables that are locked (R164). -/
structure Locks where
  policy : Bool
  classes : Bool
  keys : Bool
  sockets : Bool
  settings : Bool
  deriving DecidableEq, Repr, Inhabited

/-- The active tables (R158) and the lock set. -/
structure Tables where
  drop : Vector Nat 12
  curve : Vector CurvePoint 8
  lanes : Vector (Option Slot) 32
  thin : Vector (BitVec 2) 16
  policy : Vector Action 9
  classes : Vector ClassEntry 16
  keys : Vector Key 8
  sockets : Vector SocketConfig 12
  settings : Vector Nat 24
  locks : Locks
  deriving DecidableEq, Repr

/-- The nine policy conditions, in index order (R158). -/
inductive Condition where
  | pending | normal | low | reserve | out | suspect | foreign | misplaced | reused
  deriving DecidableEq, Repr, Inhabited

/-! ### The Request Decoder -/

/-- A request of the request queue: its payload, cut at the tag (R155, R156). -/
structure Request where
  code : Byte
  tag : Byte
  args : List Byte
  deriving DecidableEq, Repr, Inhabited

/-- The reply statuses (R155). -/
inductive Status where
  | done | queued | busy | locked | range | state | unknown | eventsPending | writeOnly
  deriving DecidableEq, Repr, Inhabited

/-- What a request is answered: a status and, for DONE and QUEUED, results (R155). -/
structure Reply where
  status : Status
  results : List Byte
  deriving DecidableEq, Repr, Inhabited

/-- The staging copy of a staged table with its status, NONE, OPEN or READY (R161). -/
inductive Staging (α : Type) where
  | none
  | opened (copy : α)
  | ready (copy : α)
  deriving DecidableEq, Repr, Inhabited

/-- The stage the parking sequence has reached (R176). -/
inductive ParkStage where
  /-- Stage 1: commits are outstanding. -/
  | commits
  /-- Stage 2 is done and another save runs: stage 3 starts at its completion. -/
  | waitingSave
  /-- Stage 3: the parking save runs. -/
  | saving
  deriving DecidableEq, Repr, Inhabited

/-- The park state (R175). -/
inductive Park where
  | active
  | parking (stage : ParkStage)
  | parked
  deriving DecidableEq, Repr, Inhabited

/-- The Request Decoder's state (R156, R161, R175). -/
structure Decoder where
  /-- The request queue, oldest first. -/
  requests : List Request
  dropCopy : Staging (Vector Nat 12)
  curveCopy : Staging (Vector CurvePoint 8)
  laneCopy : Staging (Vector (Option Slot) 32)
  thinCopy : Staging (Vector (BitVec 2) 16)
  policyCopy : Staging (Vector Action 9)
  park : Park
  deriving DecidableEq, Repr

/-! ### The Event Unit -/

/-- The 25 event kinds (R168). -/
inductive EventKind where
  | inserted | removed | genuine | rejected | holdoff
  | bandLow | bandReserve | bandOut
  | levelShortfall | refillWarning | commitInDoubt
  | tempStale
  | swathTruncated | strayFire | columnOverrun | blankedUnmeterable
  | tableRejected
  | linkCrc | linkLost
  | requestOverflow
  | busStuck
  | restart
  | storeCorrected | storeSectionLost
  | parked
  deriving DecidableEq, Repr, Inhabited

/-- A pending event: its name (kind and index) and the detail recorded when it was added (R168, R169). -/
structure Event where
  kind : EventKind
  index : Nat
  detail : Word
  deriving DecidableEq, Repr, Inhabited

/-- The Event Unit's state (R169 to R174). -/
structure EventUnit where
  /-- The pending set, oldest first. -/
  pending : List Event
  /-- The enable set, in the order of the kind codes. -/
  enabled : List EventKind
  gateOpen : Bool
  noticesOn : Bool
  /-- A NOTICE is held ready. -/
  noticeReady : Bool
  /-- The notice hold-off timer: stopped, or running for the length it was started with, in ms. -/
  holdoff : Option Nat
  deriving DecidableEq, Repr

/-! ### The Store -/

/-- A section of the store as it is stored: the bytes of its contents, and the CRC-16 it ends in (R179). -/
structure Section where
  bytes : List Byte
  crc : BitVec 16
  deriving DecidableEq, Repr, Inhabited

/-- The contents of CONFIG (R179). -/
structure ConfigImage where
  policy : Vector Action 9
  classes : Vector ClassEntry 16
  sockets : Vector SocketConfig 12
  settings : Vector Nat 24
  locks : Locks
  deriving DecidableEq, Repr

/-- The contents of KNOWN (R179). -/
structure KnownImage where
  entries : List Entry
  /-- The nonce seed. -/
  seed : Word
  writeCount : Nat
  deriving DecidableEq, Repr, Inhabited

/-- The section a running save is writing (R180). -/
inductive SaveStage where
  | config | keys | known
  deriving DecidableEq, Repr, Inhabited

/-- A running save: its snapshot and the section being written (R180). -/
structure Save where
  config : ConfigImage
  keys : Vector Key 8
  known : KnownImage
  writing : SaveStage
  deriving DecidableEq, Repr

/-- The Store: its three sections, the running save, the write count (R179, R180), and the model's own count of
the saves that a reset has stopped (log entry 11). -/
structure Store where
  config : Section
  keys : Section
  known : Section
  save : Option Save
  writeCount : Nat
  tears : Nat
  deriving DecidableEq, Repr

/-! ### Reset -/

/-- Where the part stands with respect to reset (R181). -/
inductive RunPhase where
  /-- RESET is asserted. -/
  | asserted
  /-- RESET is released and the Store reads its sections. -/
  | reading
  /-- Start-up is complete. -/
  | running
  deriving DecidableEq, Repr, Inhabited

end Sys2Proof.Machine
end

