-- ==== Sys2Proof/Machine/Bytes.lean ====
section
/-! DEFINITION. Bytes, byte order, the two CRCs, and the updates of a vector at an index. -/

namespace Sys2Proof.Machine

/-- The `k` low bytes of `v`, least significant byte first (00_scope, "Byte order"). -/
def leBytes : Nat → Nat → List Byte
  | 0, _ => []
  | k + 1, v => BitVec.ofNat 8 v :: leBytes k (v / 256)

/-- The number that bytes sent least significant byte first stand for. -/
def leValue : List Byte → Nat
  | [] => 0
  | b :: bs => b.toNat + 256 * leValue bs

/-- The number in the `len` bytes at offset `off`. -/
def leField (bs : List Byte) (off len : Nat) : Nat :=
  leValue ((bs.drop off).take len)

/-- The byte at offset `off`, 0 beyond the end. -/
def byteAt (bs : List Byte) (off : Nat) : Byte :=
  bs.getD off 0#8

/-- A number as a signed two's-complement count of 16 bits. -/
def signed16 (v : Nat) : Int :=
  (BitVec.ofNat 16 v).toInt

/-- One bit of the CRC-16: generator polynomial 1021h (R2). -/
def crc16Bit (c : BitVec 16) : BitVec 16 :=
  if c.msb then (c <<< 1) ^^^ 0x1021#16 else c <<< 1

/-- One byte of the CRC-16, most significant bit first (R2). -/
def crc16Byte (c : BitVec 16) (b : Byte) : BitVec 16 :=
  Nat.repeat crc16Bit 8 (c ^^^ (b.setWidth 16 <<< 8))

/-- The CRC-16 of the print link: initial value FFFFh, no reflection, no final XOR (R2). -/
def crc16 (bs : List Byte) : BitVec 16 :=
  bs.foldl crc16Byte 0xFFFF#16

/-- One bit of the CRC-8: generator polynomial 07h (R79). -/
def crc8Bit (c : Byte) : Byte :=
  if c.msb then (c <<< 1) ^^^ 0x07#8 else c <<< 1

/-- One byte of the CRC-8, most significant bit first (R79). -/
def crc8Byte (c b : Byte) : Byte :=
  Nat.repeat crc8Bit 8 (c ^^^ b)

/-- The CRC-8 of a supply bus packet: initial value 00h (R79). -/
def crc8 (bs : List Byte) : Byte :=
  bs.foldl crc8Byte 0x00#8

/-- A vector with the element at `i` changed by `f`. -/
def changeAt {α : Type} {n : Nat} (v : Vector α n) (i : Fin n) (f : α → α) : Vector α n :=
  v.set i.val (f v[i]) i.isLt

/-- A flag as a byte: 0 clear or off, 1 set or on (R155). -/
def flagByte (b : Bool) : Byte :=
  if b then 1#8 else 0#8

/-- The greatest value of a 32-bit count of nanolitres (R59). -/
def maxNanolitres : Nat := 4294967295

/-- A sum of nanolitres, held at 4,294,967,295 (R59). -/
def addHeld (a b : Nat) : Nat :=
  min (a + b) maxNanolitres

end Sys2Proof.Machine
end

