-- ==== Sys2Proof/Machine/Defaults.lean ====
section
/-! DEFINITION. The reset values and defaults of the tables (R49, R53, R158, R181), and the codes of the
values the tables hold. -/

namespace Sys2Proof.Machine

/-- Drop volume table after reset: every entry 0 (R53). -/
def defaultDrop : Vector Nat 12 := Vector.replicate 12 0

/-- Compensation curve after reset (R49). -/
def defaultCurve : Vector CurvePoint 8 :=
  #v[⟨-80, 1024⟩, ⟨-40, 1024⟩, ⟨0, 1024⟩, ⟨40, 1024⟩, ⟨80, 1024⟩, ⟨120, 1024⟩, ⟨200, 1024⟩, ⟨300, 1024⟩]

/-- Lane map after reset: every entry UNUSED (R158). -/
def defaultLanes : Vector (Option Slot) 32 := Vector.replicate 32 none

/-- Thinning map after reset: every entry holds its own code (R158). -/
def defaultThin : Vector (BitVec 2) 16 :=
  Vector.ofFn fun i : Fin 16 => BitVec.ofNat 2 (i.val % 4)

/-- The default policy: PENDING BLANK, NORMAL PASS, LOW PASS, RESERVE THIN, OUT BLANK, SUSPECT PASS,
FOREIGN, MISPLACED and REUSED BLANK (R158). -/
def defaultPolicy : Vector Action 9 :=
  #v[.blank, .pass, .pass, .thin, .blank, .pass, .blank, .blank, .blank]

/-- A class entry after reset: invalid, every other field 0 (R158). -/
def defaultClass : ClassEntry := ⟨false, 0#16, 0#16, 0#8, 0, 0, 0, 0⟩

/-- The genuine class table's defaults (R158). -/
def defaultClasses : Vector ClassEntry 16 := Vector.replicate 16 defaultClass

/-- A key of four zero words (R158). -/
def zeroKey : Key := ⟨0#32, 0#32, 0#32, 0#32⟩

/-- The key table's defaults (R158). -/
def defaultKeys : Vector Key 8 := Vector.replicate 8 zeroKey

/-- The slot configuration's defaults: enabled, required colour bits FFh (R158). -/
def defaultSockets : Vector SocketConfig 12 := Vector.replicate 12 ⟨true, 0xFF#8⟩

/-- The defaults of the 24 integrity settings, in index order (R158). -/
def defaultSettings : Vector Nat 24 :=
  #v[24, 8, 8, 4, 8, 16, 24, 1000000, 64, 250000, 2000000, 3, 2, 2000, 3, 0, 6, 500, 1100, 200, 20, 100, 20, 0]

/-- The least and the greatest value of each integrity setting, in index order (R158). The release level's bound
below the threshold and the ceiling's bound by the quantum are judged over the table (R159 step 5). -/
def settingRange : Vector (Nat × Nat) 24 :=
  #v[(1, 255), (0, 254), (0, 255), (0, 255), (0, 255), (0, 255), (0, 255), (0, 16000000),
     (1, 4095), (1000, 16000000), (1000, 64000000), (1, 4), (1, 4), (100, 10000), (1, 7), (0, 1),
     (1, 40), (50, 5000), (256, 2047), (50, 1000), (5, 100), (0, 1000), (1, 1000), (0, 255)]

/-- An empty lock set (R181). -/
def noLocks : Locks := ⟨false, false, false, false, false⟩

/-- The codes of the actions (R155, R158). -/
def Action.code : Action → Nat
  | .pass => 0
  | .thin => 1
  | .blank => 2

/-- The action a policy value stands for (R158, table 5). -/
def Action.ofCode : Nat → Option Action
  | 0 => some .pass
  | 1 => some .thin
  | 2 => some .blank
  | _ => none

/-- The tables right after reset when CONFIG and KEYS are lost or hold the defaults (R158, R181). -/
def defaultTables : Tables where
  drop := defaultDrop
  curve := defaultCurve
  lanes := defaultLanes
  thin := defaultThin
  policy := defaultPolicy
  classes := defaultClasses
  keys := defaultKeys
  sockets := defaultSockets
  settings := defaultSettings
  locks := noLocks

/-- The 25 event kinds in the order of their codes (R168). -/
def allEventKinds : List EventKind :=
  [.inserted, .removed, .genuine, .rejected, .holdoff, .bandLow, .bandReserve, .bandOut, .levelShortfall,
   .refillWarning, .commitInDoubt, .tempStale, .swathTruncated, .strayFire, .columnOverrun, .blankedUnmeterable,
   .tableRejected, .linkCrc, .linkLost, .requestOverflow, .busStuck, .restart, .storeCorrected, .storeSectionLost,
   .parked]

end Sys2Proof.Machine
end

