-- ==== Sys2Proof/Machine/EntryForms.lean ====
section
/-! DEFINITION. The entry forms in which tables and list entries are sent (R155), and the store's sections: their contents in
those forms, each section with the CRC-16 it ends in (R179; the order of the fields is log entry 10's). -/

namespace Sys2Proof.Machine

/-! ### Entry forms -/

/-- A policy entry as sent (R155). -/
def actionForm (a : Action) : List Byte := [BitVec.ofNat 8 a.code]

/-- A class entry as sent (R155). -/
def ClassEntry.bytes (c : ClassEntry) : List Byte :=
  flagByte c.valid :: (leBytes 2 c.code.toNat ++ leBytes 2 c.mask.toNat ++ [c.colours, BitVec.ofNat 8 c.keyIndex.val]
    ++ leBytes 4 c.ceiling ++ leBytes 2 c.low ++ leBytes 2 c.reserve)

/-- A key in its entry form, K0 to K3 (R155). -/
def Key.bytes (k : Key) : List Byte :=
  leBytes 4 k.k0.toNat ++ leBytes 4 k.k1.toNat ++ leBytes 4 k.k2.toNat ++ leBytes 4 k.k3.toNat

/-- A slot configuration entry as sent (R155). -/
def SocketConfig.bytes (c : SocketConfig) : List Byte := [flagByte c.enabled, c.colours]

/-- An integrity setting as sent (R155). -/
def settingForm (v : Nat) : List Byte := leBytes 4 v

/-- A field of 4 bytes after its presence byte: 0 and 0 where it is absent (R155). -/
def presentField (v : Option Nat) : List Byte :=
  match v with
  | some v => 1#8 :: leBytes 4 v
  | none => 0#8 :: leBytes 4 0

/-- The in-doubt part as sent (R155). -/
def inDoubtBytes (i : Option InDoubt) : List Byte :=
  match i with
  | some i => 1#8 :: (leBytes 4 i.amount ++ leBytes 4 i.preLevel)
  | none => List.replicate 9 0#8

/-- The flags of an entry: bit 0 exhausted, bit 1 suspect mark (R155). -/
def Entry.flags (e : Entry) : Byte :=
  (if e.exhausted then 1#8 else 0#8) ||| (if e.suspect then 2#8 else 0#8)

/-- A residence: n for IN SLOT n, FFh for OUT (R155). -/
def residenceByte (n : Option Slot) : Byte :=
  match n with
  | some n => BitVec.ofNat 8 n.val
  | none => 0xFF#8

/-- An entry of the list as sent, after its position (R154, R155). -/
def Entry.form (e : Entry) : List Byte :=
  leBytes 4 e.serial.toNat ++ leBytes 2 e.product.toNat ++ [e.generation]
    ++ presentField e.lastLevel ++ leBytes 4 e.unsettled ++ inDoubtBytes e.inDoubt
    ++ [BitVec.ofNat 8 e.count, e.flags, residenceByte e.residence]

/-! ### The sections of the store -/

/-- A section as it is written: the bytes of its contents, and the CRC-16 over them (R179). -/
def Section.holding (bytes : List Byte) : Section := ⟨bytes, crc16 bytes⟩

/-- The lock set as CONFIG holds it: a flag for each of tables 5 to 9 (R179). -/
def Locks.bytes (l : Locks) : List Byte :=
  [flagByte l.policy, flagByte l.classes, flagByte l.keys, flagByte l.sockets, flagByte l.settings]

/-- The bytes of CONFIG: tables 5, 6, 8 and 9 in their entry forms, and the lock set (R179). -/
def ConfigImage.bytes (c : ConfigImage) : List Byte :=
  c.policy.toList.flatMap actionForm ++ c.classes.toList.flatMap ClassEntry.bytes
    ++ c.sockets.toList.flatMap SocketConfig.bytes ++ c.settings.toList.flatMap settingForm ++ c.locks.bytes

/-- The bytes of KEYS: table 7 in its entry form (R179). -/
def keysBytes (k : Vector Key 8) : List Byte := k.toList.flatMap Key.bytes

/-- The bytes of KNOWN: the number of entries, the entries in their order, the nonce seed, the write count (R179). -/
def KnownImage.bytes (k : KnownImage) : List Byte :=
  BitVec.ofNat 8 k.entries.length :: (k.entries.flatMap Entry.form ++ leBytes 4 k.seed.toNat ++ leBytes 2 k.writeCount)

/-- The contents of CONFIG as the tables stand (R179). -/
def configImage (t : Tables) : ConfigImage := ⟨t.policy, t.classes, t.sockets, t.settings, t.locks⟩

end Sys2Proof.Machine
end

