-- ==== Sys2Proof/Machine/State.lean ====
section
/-! DEFINITION. The part's state, as plain data: one field for each block of 00_scope.md's table, the reset control,
the input pins, and the queue of commands. `State.reset` is the part right after start-up. -/

namespace Sys2Proof.Machine

/-- The state of the part. -/
structure State where
  /-- Where the part stands with respect to reset (R181). -/
  run : RunPhase
  /-- The reason recorded with RESTART (R181). -/
  cause : ResetCause
  /-- The presence lines: true reads present (R73). -/
  present : Vector Bool 12
  /-- A chip holds the supply bus line low (R72, R85). -/
  busLow : Bool
  /-- Link Interface (R16). -/
  link : Link
  /-- Swath Path (R17). -/
  swath : SwathPath
  /-- Temperature Tracker (R42). -/
  heads : Vector HeadRecord 4
  /-- Metering Unit: the residues, in sub-units (R58). -/
  residue : Vector Nat 12
  /-- Supply Table (R90). -/
  slots : Vector SlotRecord 12
  /-- Supply Bus Master (R89). -/
  bus : Bus
  /-- Authentication Unit: the nonce register (R102). -/
  nonce : Word
  /-- Commit Unit (R117). -/
  commits : CommitUnit
  /-- Integrity Monitor: the Known Cartridge List, position 0 first (R133). -/
  known : List Entry
  /-- Request Decoder (R156, R161, R175). -/
  decoder : Decoder
  /-- The active tables and the lock set (R158, R164). -/
  tables : Tables
  /-- Event Unit (R169 to R174). -/
  events : EventUnit
  /-- Store (R179, R180). -/
  store : Store
  /-- The commands waiting, first in, first out (the model's own; log entry 1). -/
  pending : List Instr
  deriving DecidableEq, Repr

/-- The reasons a step could stop with a fault. None: the spec gives every command an effect, and no condition of
the part stops it (INVENTORY.md, "Faults"). -/
inductive Fault where
  deriving DecidableEq, Repr

/-- The reasons a step could be refused. -/
inductive Refusal where
  /-- No meaning has been written for the command: raised by `exec`'s own arms only, and by none of them. Safe: the
  model stops where the part goes on. -/
  | notModelled (mnemonic : String)
  deriving DecidableEq, Repr

/-- A slot's record after reset (R90). -/
def SlotRecord.fresh : SlotRecord where
  state := .empty
  binding := none
  proven := false
  allowance := 0
  attempts := 0
  round := 0
  holdoff := none
  countdown := 0
  level := none
  pendingDebit := 0
  band := .none

/-- The Swath Path after reset (R17). -/
def SwathPath.fresh : SwathPath where
  descriptor := none
  refused := false
  taken := Vector.replicate 32 0
  drops := Vector.replicate 32 ⟨0, 0, 0⟩
  latched := Vector.replicate 12 .blank
  lastNumber := 0#32

/-- A head's record after reset, its stale timer started for the stale time `t` (R42). -/
def HeadRecord.fresh (t : Nat) : HeadRecord := ⟨0, true, true, some t⟩

/-- The Commit Unit after reset (R117). -/
def CommitUnit.fresh : CommitUnit := ⟨Vector.replicate 12 ⟨.idle, false⟩, none⟩

/-- The Request Decoder after reset (R156, R161, R182). -/
def Decoder.fresh : Decoder where
  requests := []
  dropCopy := .none
  curveCopy := .none
  laneCopy := .none
  thinCopy := .none
  policyCopy := .none
  park := .active

/-- The Store that `State.reset` holds: three sections with matching CRCs and the default contents, no save running
(DESIGN CHOICE, log entry 12). -/
def Store.factory : Store where
  config := .holding (configImage defaultTables).bytes
  keys := .holding (keysBytes defaultKeys)
  known := .holding (KnownImage.bytes ⟨[], 0#32, 0⟩)
  save := none
  writeCount := 0
  tears := 0

/-- The part right after reset: start-up has just completed after power-on (R16, R17, R42, R58, R89, R90, R117, R133,
R172, R182), with the straps, lines and store of log entries 12 and 13. RESTART is pending, its NOTICE has closed the
gate, and the idle upstream transmitter has chosen it: kind 6, destination A0h, one event, category store. -/
def State.reset : State where
  run := .running
  cause := .power
  present := Vector.replicate 12 false
  busLow := false
  link :=
    { strap := 0#4
      receiver := none
      headReceiver := none
      up := false
      lossTimer := none
      crcErrors := 0
      forward := []
      passThrough := []
      replies := []
      downTx := none
      upTx := some ⟨.notice, 0xA0#8, [0x01#8, 0x20#8], crc16 [0x06#8, 0xA0#8, 0x02#8, 0x00#8, 0x01#8, 0x20#8]⟩ }
  swath := SwathPath.fresh
  heads := Vector.replicate 4 (HeadRecord.fresh 500)
  residue := Vector.replicate 12 0
  slots := Vector.replicate 12 SlotRecord.fresh
  bus :=
    { queue := []
      flight := none
      status := .idle
      lowTiming := false
      releaseTimer := false
      watches := Vector.replicate 12 .quiet }
  nonce := 0#32
  commits := CommitUnit.fresh
  known := []
  decoder := Decoder.fresh
  tables := defaultTables
  events :=
    { pending := [⟨.restart, 0, 0#32⟩]
      enabled := allEventKinds
      gateOpen := false
      noticesOn := true
      noticeReady := false
      holdoff := none }
  store := Store.factory
  pending := []

end Sys2Proof.Machine
end

