-- ==== Sys2Proof/Machine/Flags.lean ====
section
/-! DEFINITION. The Event Unit: the pending set, the enable set, the notice gate and its hold-off (R168 to R174). -/

namespace Sys2Proof.Machine

/-- The code of an event kind (R168). -/
def EventKind.code : EventKind → Nat
  | .inserted => 1
  | .removed => 2
  | .genuine => 3
  | .rejected => 4
  | .holdoff => 5
  | .bandLow => 6
  | .bandReserve => 7
  | .bandOut => 8
  | .levelShortfall => 9
  | .refillWarning => 10
  | .commitInDoubt => 11
  | .tempStale => 12
  | .swathTruncated => 13
  | .strayFire => 14
  | .columnOverrun => 15
  | .blankedUnmeterable => 16
  | .tableRejected => 17
  | .linkCrc => 18
  | .linkLost => 19
  | .requestOverflow => 20
  | .busStuck => 21
  | .restart => 22
  | .storeCorrected => 23
  | .storeSectionLost => 24
  | .parked => 25

/-- The event kind a code names, if it names one (R168). -/
def EventKind.ofCode (c : Nat) : Option EventKind :=
  allEventKinds.find? fun k => k.code == c

/-- How many indices a kind has: 12 slots, 4 heads, 3 sections, or the single index 0 of a kind with none (R168). -/
def EventKind.indices : EventKind → Nat
  | .inserted | .removed | .genuine | .rejected | .holdoff => 12
  | .bandLow | .bandReserve | .bandOut => 12
  | .levelShortfall | .refillWarning | .commitInDoubt => 12
  | .tempStale => 4
  | .storeCorrected | .storeSectionLost => 3
  | _ => 1

/-- The notice category of a kind: 0 slot, 1 head, 2 path, 3 link, 4 supply, 5 store (R168). -/
def EventKind.category : EventKind → Nat
  | .tempStale => 1
  | .swathTruncated | .strayFire | .columnOverrun | .blankedUnmeterable | .tableRejected => 2
  | .linkCrc | .linkLost | .requestOverflow => 3
  | .busStuck => 4
  | .restart | .storeCorrected | .storeSectionLost | .parked => 5
  | _ => 0

/-- The kind and index that two bytes name, if they name an event (R168). -/
def eventName (kind index : Nat) : Option (EventKind × Nat) :=
  match EventKind.ofCode kind with
  | some k => if index < k.indices then some (k, index) else none
  | none => none

/-- A pending event's name. -/
def Event.name (e : Event) : EventKind × Nat := (e.kind, e.index)

/-- Whether an event of this name is pending (R169). -/
def EventUnit.holds (u : EventUnit) (k : EventKind) (i : Nat) : Bool :=
  u.pending.any fun e => e.name == (k, i)

/-- A NOTICE is made ready and the gate closes, where the gate is open, notices are on and an event is pending
(R172). -/
def EventUnit.announce (u : EventUnit) : EventUnit :=
  if u.gateOpen && u.noticesOn && !u.pending.isEmpty then { u with noticeReady := true, gateOpen := false } else u

/-- A block raises an event: it is added at the back with its detail if its kind is enabled and its name is not
pending (R169), and R172 is then applied. -/
def EventUnit.raise (k : EventKind) (i : Nat) (detail : Word) (u : EventUnit) : EventUnit :=
  if k ∈ u.enabled then
    if u.holds k i then u else ({ u with pending := u.pending ++ [⟨k, i, detail⟩] } : EventUnit).announce
  else u

/-- The gate opens, a running hold-off timer stops, and R172 is applied (R14, R15, R172, R173). -/
def EventUnit.openGate (u : EventUnit) : EventUnit :=
  ({ u with gateOpen := true, holdoff := none } : EventUnit).announce

/-- A CLEAR answered DONE acts on the gate and its timer, with the notice hold-off `t` (R173). -/
def EventUnit.startHoldoff (t : Nat) (u : EventUnit) : EventUnit :=
  if u.gateOpen then u
  else
    match u.holdoff with
    | some _ => u
    | none => if t = 0 then u.openGate else { u with holdoff := some t }

/-- CLEAR of the listed names (R171). -/
def EventUnit.clearNames (names : List (EventKind × Nat)) (u : EventUnit) : EventUnit :=
  { u with pending := u.pending.filter fun e => !names.contains e.name }

/-- CLEAR of every event (R171). -/
def EventUnit.clearAll (u : EventUnit) : EventUnit :=
  { u with pending := [] }

/-- ENABLE: the kinds given, together with RESTART and REFILL WARNING (R170). -/
def EventUnit.enable (kinds : List EventKind) (u : EventUnit) : EventUnit :=
  { u with enabled := allEventKinds.filter fun k => kinds.contains k || k == .restart || k == .refillWarning }

/-- NOTICES ON (R174). -/
def EventUnit.turnOn (u : EventUnit) : EventUnit :=
  ({ u with noticesOn := true } : EventUnit).announce

/-- NOTICES OFF: a NOTICE held ready is withdrawn, the gate opens and the hold-off timer stops (R174). -/
def EventUnit.turnOff (u : EventUnit) : EventUnit :=
  { u with noticesOn := false, noticeReady := false, gateOpen := true, holdoff := none }

/-- Whether category `c` has a pending event (R172). -/
def EventUnit.hasCategory (u : EventUnit) (c : Nat) : Bool :=
  u.pending.any fun e => e.kind.category == c

/-- The payload of a NOTICE: the number of pending events, then the category bits (R172). -/
def EventUnit.noticePayload (u : EventUnit) : List Byte :=
  [BitVec.ofNat 8 u.pending.length,
   BitVec.ofNat 8 (((List.range 6).map fun c => if u.hasCategory c then 2 ^ c else 0).sum)]

end Sys2Proof.Machine
end

