-- ==== Sys2Proof/Machine/Ops.lean ====
section
/-! DEFINITION. The named operations over the state that every block uses: one update for each block, the slot
record's accessors, the settings by name, raising an event, the queues of the Link Interface, the transaction queue. -/

namespace Sys2Proof.Machine

/-- What a command answers. -/
abbrev Answer := Host.Outcome State Fault Refusal

/-- The command takes place only while start-up is complete (R181): otherwise it changes nothing. -/
def whenRunning (f : State → State) (s : State) : State :=
  if s.run = .running then f s else s

/-! ### One update for each block -/

/-- Change the Link Interface's state. -/
def State.onLink (s : State) (f : Link → Link) : State := { s with link := f s.link }

/-- Change the Swath Path's state. -/
def State.onSwath (s : State) (f : SwathPath → SwathPath) : State := { s with swath := f s.swath }

/-- Change a head's record. -/
def State.onHead (s : State) (h : Head) (f : HeadRecord → HeadRecord) : State :=
  { s with heads := changeAt s.heads h f }

/-- Set a slot's residue. -/
def State.setResidue (s : State) (n : Slot) (r : Nat) : State :=
  { s with residue := changeAt s.residue n fun _ => r }

/-- Change a slot's record. -/
def State.onSlot (s : State) (n : Slot) (f : SlotRecord → SlotRecord) : State :=
  { s with slots := changeAt s.slots n f }

/-- Change the Supply Bus Master's state. -/
def State.onBus (s : State) (f : Bus → Bus) : State := { s with bus := f s.bus }

/-- Set a slot's presence watch. -/
def State.setWatch (s : State) (n : Slot) (w : Watch) : State :=
  s.onBus fun b => { b with watches := changeAt b.watches n fun _ => w }

/-- Change the nonce register. -/
def State.onNonce (s : State) (f : Word → Word) : State := { s with nonce := f s.nonce }

/-- Change a slot's commit record. -/
def State.onCommit (s : State) (n : Slot) (f : CommitRecord → CommitRecord) : State :=
  { s with commits := { s.commits with records := changeAt s.commits.records n f } }

/-- Set the orphan record. -/
def State.setOrphan (s : State) (o : Option Orphan) : State :=
  { s with commits := { s.commits with orphan := o } }

/-- Change the Known Cartridge List. -/
def State.onKnown (s : State) (f : List Entry → List Entry) : State := { s with known := f s.known }

/-- Change the Request Decoder's state. -/
def State.onDecoder (s : State) (f : Decoder → Decoder) : State := { s with decoder := f s.decoder }

/-- Change the active tables. -/
def State.onTables (s : State) (f : Tables → Tables) : State := { s with tables := f s.tables }

/-- Change the Event Unit's state. -/
def State.onEvents (s : State) (f : EventUnit → EventUnit) : State := { s with events := f s.events }

/-- Change the Store. -/
def State.onStore (s : State) (f : Store → Store) : State := { s with store := f s.store }

/-- The twelve slots, lowest first. -/
def allSlots : List Slot := List.finRange 12

/-- A slot's record. -/
def State.slot (s : State) (n : Slot) : SlotRecord := s.slots[n]

/-- A slot's commit record. -/
def State.commit (s : State) (n : Slot) : CommitRecord := s.commits.records[n]

/-- A slot's presence watch. -/
def State.watch (s : State) (n : Slot) : Watch := s.bus.watches[n]

/-- The swath state is OPEN (R17). -/
def State.swathIsOpen (s : State) : Bool := s.swath.descriptor.isSome

/-- A block raises an event (R169). -/
def State.raise (s : State) (k : EventKind) (i : Nat) (detail : Word) : State :=
  s.onEvents (EventUnit.raise k i detail)

/-- Raise a per-slot event, whose index is the slot and which has no detail (R168). -/
def State.raiseSlot (s : State) (k : EventKind) (n : Slot) : State :=
  s.raise k n.val 0#32

/-! ### The integrity settings by name (R158, table 9) -/

/-- Suspicion threshold. -/
def Tables.threshold (t : Tables) : Nat := t.settings[0]
/-- Suspicion release level. -/
def Tables.releaseLevel (t : Tables) : Nat := t.settings[1]
/-- Level-rise weight. -/
def Tables.riseWeight (t : Tables) : Nat := t.settings[2]
/-- Tag-fail weight. -/
def Tables.tagFailWeight (t : Tables) : Nat := t.settings[3]
/-- Capacity-excess weight. -/
def Tables.excessWeight (t : Tables) : Nat := t.settings[4]
/-- Generation-regress weight. -/
def Tables.regressWeight (t : Tables) : Nat := t.settings[5]
/-- Reuse weight. -/
def Tables.reuseWeight (t : Tables) : Nat := t.settings[6]
/-- Level tolerance, in nL. -/
def Tables.tolerance (t : Tables) : Nat := t.settings[7]
/-- Re-authentication interval, in swaths. -/
def Tables.interval (t : Tables) : Nat := t.settings[8]
/-- Commit quantum, in nL. -/
def Tables.quantum (t : Tables) : Nat := t.settings[9]
/-- Backlog ceiling, in nL. -/
def Tables.backlogCeiling (t : Tables) : Nat := t.settings[10]
/-- A_first. -/
def Tables.aFirst (t : Tables) : Nat := t.settings[11]
/-- A_run. -/
def Tables.aRun (t : Tables) : Nat := t.settings[12]
/-- Hold-off base, in ms. -/
def Tables.holdoffBase (t : Tables) : Nat := t.settings[13]
/-- Round limit. -/
def Tables.roundLimit (t : Tables) : Nat := t.settings[14]
/-- The retry mode is LIMITED. -/
def Tables.limited (t : Tables) : Bool := t.settings[15] == 0
/-- Slew limit, in half-degrees. -/
def Tables.slewLimit (t : Tables) : Nat := t.settings[16]
/-- Stale time, in ms. -/
def Tables.staleTime (t : Tables) : Nat := t.settings[17]
/-- Fallback factor. -/
def Tables.fallbackFactor (t : Tables) : Nat := t.settings[18]
/-- Insert settle time, in ms. -/
def Tables.insertSettle (t : Tables) : Nat := t.settings[19]
/-- Removal settle time, in ms. -/
def Tables.removalSettle (t : Tables) : Nat := t.settings[20]
/-- Notice hold-off, in ms. -/
def Tables.noticeHoldoff (t : Tables) : Nat := t.settings[21]
/-- Link-loss time, in ms. -/
def Tables.linkLossTime (t : Tables) : Nat := t.settings[22]
/-- Address mask. -/
def Tables.addressMask (t : Tables) : Byte := BitVec.ofNat 8 t.settings[23]

/-! ### Frames and the queues of the Link Interface -/

/-- The kind byte of a frame (The Frame Envelope). -/
def FrameKind.code : FrameKind → Byte
  | .swathOpen => 1#8
  | .fire => 2#8
  | .swathClose => 3#8
  | .request => 4#8
  | .reply => 5#8
  | .notice => 6#8
  | .headStatus => 7#8

/-- The bytes of a frame that its CRC-16 covers: the kind through the last payload byte (R2). -/
def coveredBytes (kind destination : Byte) (length : Nat) (payload : List Byte) : List Byte :=
  kind :: destination :: (leBytes 2 length ++ payload)

/-- A frame the controller changes or generates: its length field and its CRC are those of the frame as sent (R8). -/
def makeFrame (kind : FrameKind) (destination : Byte) (payload : List Byte) : Frame where
  kind := kind
  destination := destination
  payload := payload
  crc := crc16 (coveredBytes kind.code destination payload.length payload)

/-- All the bytes of a frame as sent, from the kind to the CRC (The Frame Envelope). -/
def Frame.bytes (f : Frame) : List Byte :=
  coveredBytes f.kind.code f.destination f.payload.length f.payload ++ leBytes 2 f.crc.toNat

/-- The generated SWATH CLOSE of a truncated swath (R8, R34). -/
def closeFrame (number : Word) : Frame :=
  makeFrame .swathClose 0#8 (leBytes 4 number.toNat)

/-- The controller's own address A: A0h plus the strap value (R6). -/
def Link.address (l : Link) : Byte :=
  0xA0#8 + l.strap.setWidth 8

/-- Frames enter the forward queue in order (R7). -/
def State.forward (s : State) (fs : List Frame) : State :=
  s.onLink fun l => { l with forward := l.forward ++ fs }

/-- A REPLY is placed at the back of the reply queue: request code and tag echoed, the status, the results (R11,
R155). -/
def State.placeReply (s : State) (code tag status : Byte) (results : List Byte) : State :=
  s.onLink fun l =>
    { l with replies := l.replies ++ [makeFrame .reply l.address (code :: tag :: status :: results)] }

/-- The downstream transmitter begins the oldest frame of the forward queue if it is sending none (R9). -/
def Link.beginDown (l : Link) : Link :=
  match l.downTx, l.forward with
  | none, f :: rest => { l with downTx := some f, forward := rest }
  | _, _ => l

/-- The upstream arbiter, when no frame is being sent: the oldest REPLY, else the oldest pass-through frame, else the
NOTICE held ready, filled in now; else FILL (R12). -/
def State.beginUp (s : State) : State :=
  match s.link.upTx with
  | some _ => s
  | none =>
    match s.link.replies with
    | f :: rest => s.onLink fun l => { l with upTx := some f, replies := rest }
    | [] =>
      match s.link.passThrough with
      | f :: rest => s.onLink fun l => { l with upTx := some f, passThrough := rest }
      | [] =>
        if s.events.noticeReady then
          (s.onLink fun l => { l with upTx := some (makeFrame .notice l.address s.events.noticePayload) }).onEvents
            fun u => { u with noticeReady := false }
        else s

/-- Both transmitters begin what waits for them: the end of every command that can supply a frame (R9, R12; log
entry 6). -/
def State.sendNext (s : State) : State :=
  (s.onLink Link.beginDown).beginUp

/-- A received frame is discarded: the link CRC error count rises, up to 65,535, and LINK CRC is raised (R5). -/
def State.discardFrame (s : State) : State :=
  (s.onLink fun l => { l with crcErrors := min (l.crcErrors + 1) 65535 }).raise .linkCrc 0 0#32

/-! ### The transaction queue -/

/-- A unit requests a transaction: it is placed at the back, or merged into a queued request of the same slot and
kind, which keeps its age (R80). -/
def State.busPlace (s : State) (n : Slot) (k : BusKind) : State :=
  if ⟨n, k⟩ ∈ s.bus.queue then s else s.onBus fun b => { b with queue := b.queue ++ [⟨n, k⟩] }

/-- The slot is GENUINE or SUSPECT. -/
def SlotState.isProven : SlotState → Bool
  | .genuine => true
  | .suspect => true
  | _ => false

/-- The entry of the Known Cartridge List that holds a serial (R133). -/
def State.entry (s : State) (serial : Word) : Option Entry :=
  s.known.find? fun e => e.serial == serial

/-- Change the entry that holds a serial. -/
def State.onEntry (s : State) (serial : Word) (f : Entry → Entry) : State :=
  s.onKnown fun l => l.map fun e => if e.serial = serial then f e else e

/-- The serial of a slot's binding. -/
def State.boundSerial (s : State) (n : Slot) : Option Word :=
  (s.slot n).binding.map fun b => b.identity.serial

/-- Change the entry of the cartridge bound to a slot. -/
def State.onBoundEntry (s : State) (n : Slot) (f : Entry → Entry) : State :=
  match s.boundSerial n with
  | some serial => s.onEntry serial f
  | none => s

end Sys2Proof.Machine
end

