-- ==== Sys2Proof/Machine/Gating.lean ====
section
/-! DEFINITION. Latched actions: the policy action of a slot's condition, strictness, and the re-evaluation within an
open swath (R22, R23, R37, R39). -/

namespace Sys2Proof.Machine

/-- The index of a policy condition (R158). -/
def Condition.index : Condition → Fin 9
  | .pending => 0
  | .normal => 1
  | .low => 2
  | .reserve => 3
  | .out => 4
  | .suspect => 5
  | .foreign => 6
  | .misplaced => 7
  | .reused => 8

/-- The policy table's action for a condition (R22). -/
def Tables.policyFor (t : Tables) (c : Condition) : Action := t.policy[c.index]

/-- The place of an action in the order of strictness (R23). -/
def Action.strictness : Action → Nat
  | .pass => 0
  | .thin => 1
  | .blank => 2

/-- The stricter of two actions (R23). -/
def Action.stricter (a b : Action) : Action :=
  if a.strictness < b.strictness then b else a

/-- The policy action for a band (R22). A GENUINE or SUSPECT slot always has a band (R66), so the last line is met by
no slot of a run. -/
def Tables.bandAction (t : Tables) : Band → Action
  | .normal => t.policyFor .normal
  | .low => t.policyFor .low
  | .reserve => t.policyFor .reserve
  | .out => t.policyFor .out
  | .none => .blank

/-- The action a slot's condition calls for, by the first line of R22's table that applies. -/
def actionFor (t : Tables) (r : SlotRecord) : Action :=
  match r.state with
  | .empty => .blank
  | .settling | .identifying | .authenticating | .holdoff => t.policyFor .pending
  | .genuine =>
    if t.backlogCeiling < r.pendingDebit then .blank else t.bandAction r.band
  | .suspect =>
    if t.backlogCeiling < r.pendingDebit then .blank
    else (t.policyFor .suspect).stricter (t.bandAction r.band)
  | .foreign => t.policyFor .foreign
  | .misplaced => t.policyFor .misplaced
  | .reused => t.policyFor .reused

/-- Every slot's action is latched afresh (R19 step 3, R22). -/
def State.latchAll (s : State) : State :=
  s.onSwath fun w => { w with latched := s.slots.map (actionFor s.tables) }

/-- A slot's action is re-evaluated: while a swath is open it becomes the stricter of the old action and the action of
the slot's condition now (R37). -/
def State.reEvaluate (s : State) (n : Slot) : State :=
  if s.swathIsOpen then
    s.onSwath fun w =>
      { w with latched := changeAt w.latched n fun a => a.stricter (actionFor s.tables (s.slot n)) }
  else s

end Sys2Proof.Machine
end

