-- ==== Sys2Proof/Machine/Metering.lean ====
section
/-! DEFINITION. Ink Metering: raw volumes, debits and residues, the remaining estimate, the marks and the bands
(R53 to R71). -/

namespace Sys2Proof.Machine

/-- Sub-units in one nanolitre (R56). -/
def subUnits : Nat := 10240000

/-- The nominal volume V[w][s] for a waveform set and a nonzero drop code s, in tenths of a picolitre; a code of 0
fires no drop and has none (R53). -/
def Tables.nominal (t : Tables) (w : Fin 4) (code : BitVec 2) : Nat :=
  if h : code.toNat = 0 then 0
  else t.drop[3 * w.val + code.toNat - 1]'(by have := code.isLt; have := w.isLt; omega)

/-- A line's nominal sum, in tenths of a picolitre (R55). -/
def RecordLine.nominalSum (t : Tables) (l : RecordLine) : Nat :=
  l.count.small * t.nominal l.wave 1#2 + l.count.medium * t.nominal l.wave 2#2
    + l.count.large * t.nominal l.wave 3#2

/-- A line's raw volume, in sub-units (R55). -/
def RecordLine.rawVolume (t : Tables) (l : RecordLine) : Nat :=
  l.factor * l.nominalSum t

/-- A group's raw volume: the sum over its lines (R55). -/
def groupVolume (t : Tables) (lines : List RecordLine) : Nat :=
  (lines.map (RecordLine.rawVolume t)).sum

/-- The slot's class capacity C: the smaller of the reported capacity and the class's ceiling (R64). -/
def usableCapacity (b : Binding) (c : ClassEntry) : Nat :=
  min b.identity.capacity c.ceiling

/-- The low mark (R64). -/
def lowMark (b : Binding) (c : ClassEntry) : Nat :=
  usableCapacity b c * c.low / 1000

/-- The reserve mark (R64). -/
def reserveMark (b : Binding) (c : ClassEntry) : Nat :=
  usableCapacity b c * c.reserve / 1000

/-- The remaining estimate of a GENUINE or SUSPECT slot; no other slot has one (R63). -/
def SlotRecord.estimate (r : SlotRecord) : Option Nat :=
  if r.state.isProven then some (r.level.getD 0 - r.pendingDebit) else none

/-- The band an estimate gives, by the first line of R65's table that applies. -/
def bandFor (estimate low reserve : Nat) : Band :=
  if estimate = 0 then .out
  else if estimate ≤ reserve then .reserve
  else if estimate ≤ low then .low
  else .normal

/-- The band of a slot as its record stands (R65): none but for a GENUINE or SUSPECT slot, which is bound. -/
def currentBand (t : Tables) (r : SlotRecord) : Band :=
  match r.estimate, r.binding with
  | some e, some b => bandFor e (lowMark b t.classes[b.classIndex]) (reserveMark b t.classes[b.classIndex])
  | some e, none => bandFor e 0 0
  | none, _ => .none

/-- The event of entering a band, if it has one (R67). -/
def Band.event : Band → Option EventKind
  | .low => some .bandLow
  | .reserve => some .bandReserve
  | .out => some .bandOut
  | _ => Option.none

/-- The band is recomputed (R66); a changed band raises its event (R67) and is reported to the Swath Path (R68). -/
def State.recompute (s : State) (n : Slot) : State :=
  let b := currentBand s.tables (s.slot n)
  if b = (s.slot n).band then s
  else
    let s1 := s.onSlot n fun r => { r with band := b }
    let s2 := match b.event with
      | some k => s1.raiseSlot k n
      | none => s1
    s2.reEvaluate n

/-- A slot takes a new state: a slot that leaves GENUINE and SUSPECT has its countdown set to 0 (R113), the band is
recomputed (R66), and the change is reported to the Swath Path (R37). -/
def State.changeState (s : State) (n : Slot) (st : SlotState) : State :=
  let s1 := s.onSlot n fun r =>
    { r with state := st, countdown := if r.state.isProven && !st.isProven then 0 else r.countdown }
  (s1.recompute n).reEvaluate n

/-- A group of lines is metered into a slot: the debit is added to the pending debit and the remainder becomes the
residue (R56, R59), and the change is reported to the Swath Path (R68). -/
def State.meterInto (s : State) (lines : List RecordLine) (n : Slot) : State :=
  let total := s.residue[n] + groupVolume s.tables lines
  let s1 := s.setResidue n (total % subUnits)
  let s2 := s1.onSlot n fun r => { r with pendingDebit := addHeld r.pendingDebit (total / subUnits) }
  s2.reEvaluate n

/-- One group of a closing record: discarded for an EMPTY slot, otherwise metered and its slot's band recomputed; a
slot that no line names is not metered (R54, R66). -/
def State.meterGroup (record : List RecordLine) (s : State) (n : Slot) : State :=
  let lines := record.filter fun l => l.slot == n
  if lines.isEmpty || (s.slot n).state == .empty then s
  else (s.meterInto lines n).recompute n

/-- A closing record is metered, group by group (R54). -/
def State.meterRecord (s : State) (record : List RecordLine) : State :=
  allSlots.foldl (State.meterGroup record) s

/-- The 32 (head, lane) pairs in the lane map's order (R158). -/
def allLanes : List LaneIndex := List.finRange 32

/-- The head of a lane index. -/
def laneHead (i : LaneIndex) : Head := ⟨i.val / 8, by have := i.isLt; omega⟩

/-- The lane of a lane index. -/
def laneLane (i : LaneIndex) : Lane := ⟨i.val % 8, by omega⟩

/-- The lane index of a head and a lane: 8 × head + lane (R158). -/
def laneIndex (h : Head) (l : Lane) : LaneIndex :=
  ⟨8 * h.val + l.val, by have := h.isLt; have := l.isLt; omega⟩

/-- One line of the closing record, for a pair whose head is in the head set and whose lane is mapped (R33). -/
def recordLine (d : Descriptor) (t : Tables) (drops : Vector DropCount 32) (i : LaneIndex) : Option RecordLine :=
  match d.heads[laneHead i], t.lanes[i] with
  | some u, some n => some ⟨laneHead i, laneLane i, n, u.wave, u.factor, drops[i]⟩
  | _, _ => none

/-- The closing record of a swath (R33). -/
def closingRecord (d : Descriptor) (t : Tables) (drops : Vector DropCount 32) : List RecordLine :=
  allLanes.filterMap (recordLine d t drops)

/-- The drop counts of every lane mapped to a slot are set to 0 (R61, R62). -/
def State.clearDrops (s : State) (n : Slot) : State :=
  s.onSwath fun w =>
    { w with drops := Vector.ofFn fun i => if s.tables.lanes[i] = some n then ⟨0, 0, 0⟩ else w.drops[i] }

/-- The interim metering of a slot that leaves its cartridge during an open swath (R61, R112). -/
def State.interimMetering (s : State) (n : Slot) : State :=
  match s.swath.descriptor with
  | some d =>
    (s.meterInto ((closingRecord d s.tables s.swath.drops).filter fun l => l.slot == n) n).clearDrops n
  | none => s

end Sys2Proof.Machine
end

