-- ==== Sys2Proof/Machine/Asking.lean ====
section
/-! DEFINITION. Asking for supply work: challenge sequences (R106), commits and their close conditions (R118 to R120),
and what the end of a swath asks for (R113, R118). -/

namespace Sys2Proof.Machine

/-- A CHALLENGE for the slot is in flight. -/
def State.challengeInFlight (s : State) (n : Slot) : Bool :=
  match s.bus.flight with
  | some f => f.slot == n && f.kind == .challenge
  | none => false

/-- A challenge sequence of the slot is open (R106). -/
def State.sequenceOpen (s : State) (n : Slot) : Bool :=
  decide (0 < (s.slot n).attempts) || s.bus.queue.contains ⟨n, .challenge⟩ || s.challengeInFlight n

/-- A CHALLENGE is asked for (R106): a GENUINE or SUSPECT slot opens a sequence with allowance A_run, or joins the one
open; an AUTHENTICATING slot's request is placed or merged; no other slot's is placed. -/
def State.askChallenge (s : State) (n : Slot) : State :=
  match (s.slot n).state with
  | .genuine | .suspect =>
    if s.sequenceOpen n then s.busPlace n .challenge
    else (s.onSlot n fun r => { r with allowance := s.tables.aRun, attempts := 0 }).busPlace n .challenge
  | .authenticating => s.busPlace n .challenge
  | _ => s

/-- Who asks for a commit (the columns of R120's table). -/
inductive CommitCause where
  /-- A swath close or a re-check. -/
  | close
  /-- COMMIT SLOT or PARK. -/
  | request
  /-- A debit in doubt resolved as not applied. -/
  | notApplied
  deriving DecidableEq, Repr

/-- A request that passes R118's tests acts by the commit phase (R120). -/
def State.commitByPhase (s : State) (cause : CommitCause) (n : Slot) : State :=
  match (s.commit n).phase, cause with
  | .idle, _ => (s.busPlace n .debit).onCommit n fun c => { c with phase := .waiting }
  | .waiting, _ => s.busPlace n .debit
  | .inFlight .., .request => s.onCommit n fun c => { c with followOn := true }
  | .inFlight .., _ => s
  | .inDoubt .., .request => (s.onCommit n fun c => { c with followOn := true }).askChallenge n
  | .inDoubt .., _ => s

/-- A commit is asked for: it goes further only for a GENUINE or SUSPECT slot with pending debit above 0 (R118). -/
def State.askCommit (s : State) (cause : CommitCause) (n : Slot) : State :=
  if (s.slot n).state.isProven && decide (0 < (s.slot n).pendingDebit) then s.commitByPhase cause n else s

/-- A close condition holds: the pending debit has reached the quantum, or the band is RESERVE or OUT (R118). -/
def closeCondition (t : Tables) (r : SlotRecord) : Bool :=
  decide (t.quantum ≤ r.pendingDebit) || r.band == .reserve || r.band == .out

/-- The close conditions are tested for a slot, at a swath close or at a re-check point (R118, R119). -/
def State.recheck (s : State) (n : Slot) : State :=
  if closeCondition s.tables (s.slot n) then s.askCommit .close n else s

/-- The follow-on mark is cleared and, if no DEBIT is queued, a commit is asked for as by COMMIT SLOT (R120). -/
def State.actFollowOn (s : State) (n : Slot) : State :=
  if (s.commit n).followOn then
    let s1 := s.onCommit n fun c => { c with followOn := false }
    if (s.commit n).phase = .waiting then s1 else s1.askCommit .request n
  else s

/-- The end of a confirmation, a tag mismatch or a resolution as applied: the re-check, then the follow-on mark (R119,
R120). -/
def State.settleEnd (s : State) (n : Slot) : State :=
  (s.recheck n).actFollowOn n

/-- One slot's re-authentication countdown at a hand-over (R113). -/
def State.countDown (s : State) (n : Slot) : State :=
  let r := s.slot n
  if r.state.isProven && decide (0 < r.countdown) then
    let s1 := s.onSlot n fun r => { r with countdown := r.countdown - 1 }
    if r.countdown = 1 then s1.askChallenge n else s1
  else s

/-- A closing record is handed over: it is metered (R54), the swath-close triggers act on what the metering leaves
(R68, R118), and the countdowns run (R113). -/
def State.handOver (s : State) (d : Descriptor) : State :=
  let s1 := s.meterRecord (closingRecord d s.tables s.swath.drops)
  let s2 := allSlots.foldl State.recheck s1
  allSlots.foldl State.countDown s2

end Sys2Proof.Machine
end

