-- ==== Sys2Proof/Machine/Known.lean ====
section
/-! DEFINITION. The Integrity Monitor: the Known Cartridge List, the checks at binding, the account written at
unbinding, the level check, and suspicion (R133 to R154). -/

namespace Sys2Proof.Machine

/-! ### Suspicion -/

/-- The suspect mark is set where the count has reached the threshold and the mark is clear (R151). The BAND event of a move to
SUSPECT (R66, R67) is added before REFILL WARNING: no rule orders the two (DESIGN CHOICE, log entry 37). -/
def State.setMark (s : State) (serial : Word) : State :=
  match s.entry serial with
  | some e =>
    if !e.suspect && decide (s.tables.threshold ≤ e.count) then
      let s1 := s.onEntry serial fun e => { e with suspect := true }
      match e.residence with
      | some n =>
        let s2 := if (s.slot n).state = .genuine then s1.changeState n .suspect else s1
        s2.raiseSlot .refillWarning n
      | none => s1
    else s
  | none => s

/-- The suspect mark is cleared where the count is at or below the release level and the mark is set (R152). -/
def State.clearMark (s : State) (serial : Word) : State :=
  match s.entry serial with
  | some e =>
    if e.suspect && decide (e.count ≤ s.tables.releaseLevel) then
      let s1 := s.onEntry serial fun e => { e with suspect := false }
      match e.residence with
      | some n => if (s.slot n).state = .suspect then s1.changeState n .genuine else s1
      | none => s1
    else s
  | none => s

/-- The suspect mark is settled by R151 and R152. -/
def State.settleMark (s : State) (serial : Word) : State :=
  (s.setMark serial).clearMark serial

/-- A finding adds its weight to the count, which saturates at 255, and the mark is settled; a weight of 0 adds
nothing (R148). -/
def State.addWeight (s : State) (serial : Word) (weight : Nat) : State :=
  if weight = 0 then s
  else (s.onEntry serial fun e => { e with count := min (e.count + weight) 255 }).setMark serial

/-- Every entry's mark is tested against the threshold and release level now standing (R153). -/
def State.retestMarks (s : State) : State :=
  s.known.foldl (fun t e => t.settleMark e.serial) s

/-! ### Binding -/

/-- The most entries the list holds (R133). -/
def listCapacity : Nat := 48

/-- The position of the entry to evict: the OUT entry with the highest position whose exhausted flag is clear, else the
OUT entry with the highest position (R136). -/
def evictionIndex (l : List Entry) : Option Nat :=
  let positions := (List.range l.length).reverse
  let isOut (i : Nat) := match l[i]? with
    | some e => e.residence.isNone
    | none => false
  let isFresh (i : Nat) := match l[i]? with
    | some e => !e.exhausted
    | none => false
  match positions.find? fun i => isOut i && isFresh i with
  | some i => some i
  | none => positions.find? isOut

/-- Room is made for a new entry in a full list (R136). -/
def makeRoom (l : List Entry) : List Entry :=
  if listCapacity ≤ l.length then
    match evictionIndex l with
    | some i => l.eraseIdx i
    | none => l
  else l

/-- The entry of a serial that no entry holds (R135). -/
def newEntry (id : Identity) (n : Slot) : Entry where
  serial := id.serial
  product := id.product
  generation := id.generation
  lastLevel := none
  unsettled := 0
  inDoubt := none
  count := 0
  exhausted := false
  suspect := false
  residence := some n
  carried := some 0
  refurbished := false

/-- The entry of a serial found, as its binding to slot n leaves it (R135). -/
def reboundEntry (e : Entry) (id : Identity) (n : Slot) : Entry :=
  { e with product := id.product, residence := some n, carried := some e.unsettled, refurbished := false }

/-- The list when a cartridge is bound to slot n: its entry, found or new, stands at position 0 (R133, R135). -/
def bindEntry (l : List Entry) (id : Identity) (n : Slot) : List Entry :=
  match l.find? fun e => e.serial == id.serial with
  | some e => reboundEntry e id n :: l.filter fun e => !(e.serial == id.serial)
  | none => newEntry id n :: makeRoom l

/-- A reuse: the entry is exhausted and the generation reported is not above the entry's (R137). -/
def reuseFound (found : Option Entry) (id : Identity) : Bool :=
  match found with
  | some e => e.exhausted && decide (id.generation.toNat ≤ e.generation.toNat)
  | none => false

/-- The checks at binding on the entry that was found, or made new, with the class ceiling (R137 to R139). -/
def State.bindingChecks (s : State) (found : Option Entry) (id : Identity) (ceiling : Nat) : State :=
  let s1 := match found with
    | some e =>
      if e.exhausted then
        if id.generation.toNat ≤ e.generation.toNat then s.addWeight id.serial s.tables.reuseWeight
        else s.onEntry id.serial fun e => { e with refurbished := true }
      else if id.generation.toNat < e.generation.toNat then s.addWeight id.serial s.tables.regressWeight
      else s
    | none => s
  if ceiling < id.capacity then s1.addWeight id.serial s1.tables.excessWeight else s1

/-- The end of the binding: the mark is settled by R151 and REFILL WARNING raised if it is set (R140). -/
def State.endBinding (s : State) (serial : Word) (n : Slot) : State :=
  let s1 := s.setMark serial
  match s1.entry serial with
  | some e => if e.suspect then s1.raiseSlot .refillWarning n else s1
  | none => s1

/-! ### Unbinding and parking -/

/-- The account written into an entry at unbinding: level L, pending debit (R141). -/
def unboundEntry (level : Option Nat) (pendingDebit : Nat) (e : Entry) : Entry :=
  { e with
    lastLevel := level.or e.lastLevel
    unsettled := addHeld (e.carried.getD 0) pendingDebit
    carried := none
    refurbished := false
    residence := none }

/-- The copy parking writes into an IN SLOT entry (R142). -/
def parkedEntry (level : Option Nat) (pendingDebit : Nat) (e : Entry) : Entry :=
  { e with
    lastLevel := level.or e.lastLevel
    unsettled := addHeld (e.carried.getD 0) pendingDebit }

/-! ### The level check -/

/-- What the level check finds (R144). -/
inductive LevelFinding where
  | unexpected   -- there is no X
  | rise
  | shortfall
  | agrees
  deriving DecidableEq, Repr

/-- The finding on the clamped level P against the expected chip level X, by the first line of R144's table that
applies. -/
def levelFinding (expected : Option Nat) (tolerance p : Nat) : LevelFinding :=
  match expected with
  | none => .unexpected
  | some x =>
    if x + tolerance < p then .rise
    else if p < x - tolerance then .shortfall
    else .agrees

/-- The level L that a finding gives, held at or under the class's ceiling (R144). -/
def levelAfter (finding : LevelFinding) (expected : Option Nat) (p ceiling : Nat) : Nat :=
  match finding with
  | .rise => min (expected.getD p) ceiling
  | _ => min p ceiling

/-- The first successful challenge of a binding raises the entry's generation to the bound generation (R145). -/
def raiseGeneration (g : Byte) (e : Entry) : Entry :=
  { e with generation := if e.generation.toNat < g.toNat then g else e.generation }

/-- The acceptance of a refurbishment (R145). -/
def acceptRefurbishment (g : Byte) (e : Entry) : Entry :=
  { e with exhausted := false, generation := g, unsettled := 0, carried := some 0, inDoubt := none, refurbished := false }

/-- The level check and what it sets L to: the finding, and the state with L set, LEVEL SHORTFALL raised for a
shortfall (R144, R145). `first` is the first successful challenge since binding. -/
def State.checkLevel (s : State) (n : Slot) (b : Binding) (e : Entry) (first : Bool) (reported : Nat) :
    LevelFinding × State :=
  let ceiling := s.tables.classes[b.classIndex].ceiling
  let p := min reported ceiling
  if e.refurbished then
    (.unexpected,
     (s.onEntry e.serial (acceptRefurbishment b.identity.generation)).onSlot n fun r => { r with level := some p })
  else
    let x := if first then e.lastLevel else (s.slot n).level
    let finding := levelFinding x s.tables.tolerance p
    let s1 := s.onSlot n fun r => { r with level := some (levelAfter finding x p ceiling) }
    let s2 := if first then s1.onEntry e.serial (raiseGeneration b.identity.generation) else s1
    (finding, if finding = .shortfall then s2.raiseSlot .levelShortfall n else s2)

/-- The carried debit is loaded into the slot's pending debit, and the unsettled debit becomes 0 (R146). -/
def State.loadCarried (s : State) (n : Slot) (serial : Word) : State :=
  let carried := match s.entry serial with
    | some e => e.carried.getD 0
    | none => 0
  let s1 := s.onSlot n fun r => { r with pendingDebit := addHeld r.pendingDebit carried }
  (s1.onEntry serial fun e => { e with carried := none, unsettled := 0 }).reEvaluate n

/-- The entry's last level follows the slot's L (R143 step 3, R147). -/
def State.followLevel (s : State) (n : Slot) : State :=
  match (s.slot n).level with
  | some l => s.onBoundEntry n fun e => { e with lastLevel := some l }
  | none => s

/-- The exhausted flag is set where the slot's L is 0 (R125, R143 step 4). -/
def State.markExhausted (s : State) (n : Slot) : State :=
  if (s.slot n).level = some 0 then s.onBoundEntry n fun e => { e with exhausted := true } else s

/-- The suspicion count after a successful challenge: the weight of a rise, or the decay where there was no weighted
finding (R143 step 5, R148, R149). -/
def State.adjustCount (s : State) (serial : Word) (finding : LevelFinding) : State :=
  if finding = .rise ∧ s.tables.riseWeight ≠ 0 then
    s.onEntry serial fun e => { e with count := min (e.count + s.tables.riseWeight) 255 }
  else s.onEntry serial fun e => { e with count := e.count - 1 }

/-- Step 3 of a successful challenge: the Integrity Monitor's judgement of the reported level (R143). -/
def State.judgeLevel (s : State) (n : Slot) (reported : Nat) : State :=
  match (s.slot n).binding with
  | none => s
  | some b =>
    match s.entry b.identity.serial with
    | none => s
    | some e =>
      let first := !(s.slot n).proven
      let (finding, s1) := s.checkLevel n b e first reported
      let s2 := if first then s1.loadCarried n e.serial else s1
      let s3 := (s2.followLevel n).markExhausted n
      ((s3.adjustCount e.serial finding).settleMark e.serial).recompute n

/-- A DEBIT's new level is compared with L after a confirmation (R147). -/
def State.checkConfirmation (s : State) (n : Slot) (newLevel : Nat) : State :=
  match (s.slot n).level with
  | some l => if newLevel < l - s.tables.tolerance then s.raiseSlot .levelShortfall n else s
  | none => s

end Sys2Proof.Machine
end

