-- ==== Sys2Proof/Machine/Commit.lean ====
section
/-! DEFINITION. Debit Commitment: the tag function, the settlement of a DEBIT's outcome, debits in doubt and their
resolution, orphans, and the Commit Unit's part in unbinding and parking (R103, R117 to R132). -/

namespace Sys2Proof.Machine

/-- One round of the tag function: XOR with a message word, rotate left 7, add a key word (R103). -/
def tagRound (w m k : Word) : Word := (w ^^^ m).rotateLeft 7 + k

/-- The tag of four message words under a key (R103). -/
def tagOf (k : Key) (m0 m1 m2 m3 : Word) : Word :=
  tagRound (tagRound (tagRound (tagRound k.k0 m0 k.k1) m1 k.k2) m2 k.k3) m3 k.k1 ^^^ k.k0.rotateLeft 13

/-- The key of a class, as the class and key tables stand (R103, R115). -/
def Tables.keyOf (t : Tables) (c : Fin 16) : Key := t.keys[t.classes[c].keyIndex]

/-- M3 of a CHALLENGE: generation × 65,536 + product code (R103). -/
def challengeWord (id : Identity) : Word :=
  BitVec.ofNat 32 (id.generation.toNat * 65536 + id.product.toNat)

/-- The tag a CHALLENGE's reply must carry (R103, R104). -/
def challengeTag (t : Tables) (b : Binding) (nonce : Word) (level : Nat) : Word :=
  tagOf (t.keyOf b.classIndex) nonce b.identity.serial (BitVec.ofNat 32 level) (challengeWord b.identity)

/-- The tag a DEBIT's reply must carry (R103, R123). -/
def debitTag (t : Tables) (classIndex : Fin 16) (nonce serial : Word) (newLevel amount : Nat) : Word :=
  tagOf (t.keyOf classIndex) nonce serial (BitVec.ofNat 32 newLevel) (BitVec.ofNat 32 amount)

/-- The level a CHALLENGE or DEBIT reply carries (Packets). -/
def replyLevel (fields : List Byte) : Nat := leField fields 0 4

/-- The tag a CHALLENGE or DEBIT reply carries (Packets). -/
def replyTag (fields : List Byte) : Word := BitVec.ofNat 32 (leField fields 4 4)

/-! ### Settling -/

/-- The pending debit and L are lowered by D, each to no less than 0; the entry's last level follows L, and the entry
is marked exhausted if L is now 0 (R123, R124, R125, R127, R147). The fall is reported to the Swath Path (R37). -/
def State.lowerAccount (s : State) (n : Slot) (d : Nat) : State :=
  let s1 := s.onSlot n fun r => { r with pendingDebit := r.pendingDebit - d, level := r.level.map fun l => l - d }
  ((s1.followLevel n).markExhausted n).reEvaluate n

/-- The phase becomes IDLE, the follow-on mark kept (R123, R124, R127). -/
def State.commitIdle (s : State) (n : Slot) : State :=
  s.onCommit n fun c => { c with phase := .idle }

/-- A DEBIT confirmed (R123). LEVEL SHORTFALL (R147) is added before a BAND event (DEDUCED, log entry 39). -/
def State.confirmDebit (s : State) (n : Slot) (d newLevel : Nat) : State :=
  let s1 := (s.lowerAccount n d).commitIdle n
  ((s1.checkConfirmation n newLevel).recompute n).settleEnd n

/-- A DEBIT reply with a wrong tag: treated as applied (R124). -/
def State.mismatchDebit (s : State) (n : Slot) (d : Nat) (serial : Word) : State :=
  let s1 := (s.lowerAccount n d).addWeight serial s.tables.tagFailWeight
  (((s1.commitIdle n).askChallenge n).recompute n).settleEnd n

/-- A DEBIT that ended in TIMEOUT or BUS FAULT goes in doubt (R126). -/
def State.doubtDebit (s : State) (n : Slot) (d preLevel : Nat) : State :=
  ((s.onCommit n fun c => { c with phase := .inDoubt d preLevel }).raiseSlot .commitInDoubt n).askChallenge n

/-- An entry's account lowered by D: its last level and its unsettled debit, each to no less than 0, and its in-doubt
part cleared; exhausted if its last level is now 0 (R125, R129, R130). -/
def settledEntry (d : Nat) (e : Entry) : Entry :=
  let last := e.lastLevel.map fun l => l - d
  { e with
    lastLevel := last
    unsettled := e.unsettled - d
    inDoubt := none
    exhausted := e.exhausted || last == some 0 }

/-- The outcome of a DEBIT whose slot was unbound while it was on the line (R129). -/
def State.settleOrphan (s : State) (o : Orphan) (outcome : BusOutcome) : State :=
  let s1 := s.setOrphan none
  match outcome with
  | .replied fields =>
    let s2 := s1.onEntry o.serial (settledEntry o.amount)
    if replyTag fields = debitTag s.tables o.classIndex o.nonce o.serial (replyLevel fields) o.amount then s2
    else s2.addWeight o.serial s.tables.tagFailWeight
  | .timeout | .busFault => s1.raiseSlot .commitInDoubt o.slot

/-- The outcome of a DEBIT is delivered to the Commit Unit (R87, R88, R123 to R126, R129). -/
def State.debitOutcome (s : State) (n : Slot) (outcome : BusOutcome) : State :=
  match s.commits.orphan with
  | some o => s.settleOrphan o outcome
  | none =>
    match (s.commit n).phase with
    | .inFlight d nonce preLevel serial classIndex =>
      match outcome with
      | .replied fields =>
        if replyTag fields = debitTag s.tables classIndex nonce serial (replyLevel fields) d then
          s.confirmDebit n d (replyLevel fields)
        else s.mismatchDebit n d serial
      | .timeout | .busFault => s.doubtDebit n d preLevel
    | _ => s

/-! ### Resolving a debit in doubt -/

/-- The DEBIT was applied: P lies from pre-level − D − tolerance to pre-level − D + tolerance, formed without wrapping,
a lower bound below 0 taken as 0 (R127). -/
def wasApplied (preLevel d tolerance p : Nat) : Bool :=
  decide ((preLevel : Int) - d - tolerance ≤ p ∧ (p : Int) ≤ (preLevel : Int) - d + tolerance)

/-- What a successful challenge resolves (R127, R130). -/
inductive Resolution where
  | nothing
  | slotApplied (amount : Nat)
  | slotNotApplied
  | entryApplied (amount : Nat)
  | entryNotApplied
  deriving DecidableEq, Repr

/-- The resolution of a slot at a challenge that reports P: its own in-doubt record, else its entry's in-doubt part at
the first challenge after binding, unless the binding is a refurbishment (R127, R130). -/
def State.resolution (s : State) (n : Slot) (p : Nat) : Resolution :=
  match (s.commit n).phase with
  | .inDoubt d pre => if wasApplied pre d s.tables.tolerance p then .slotApplied d else .slotNotApplied
  | _ =>
    match (s.boundSerial n).bind s.entry with
    | some e =>
      match e.inDoubt with
      | some i =>
        if (s.slot n).proven || e.refurbished then .nothing
        else if wasApplied i.preLevel i.amount s.tables.tolerance p then .entryApplied i.amount
        else .entryNotApplied
      | none => .nothing
    | none => .nothing

/-- An entry whose in-doubt part was resolved as applied: settled, and its carried debit lowered with the unsettled
debit (R130, R146). -/
def appliedEntry (d : Nat) (e : Entry) : Entry :=
  let e1 := settledEntry d e
  { e1 with carried := e1.carried.map fun c => c - d }

/-- Step 2 of a successful challenge: the in-doubt record, or the entry's in-doubt part, is resolved (R127, R130). -/
def State.resolve (s : State) (n : Slot) : Resolution → State
  | .nothing => s
  | .slotApplied d =>
    ((s.onBoundEntry n fun e => { e with inDoubt := none }).lowerAccount n d).commitIdle n
  | .slotNotApplied =>
    (s.onBoundEntry n fun e => { e with inDoubt := none }).commitIdle n
  | .entryApplied d => s.onBoundEntry n (appliedEntry d)
  | .entryNotApplied => s.onBoundEntry n fun e => { e with inDoubt := none }

/-- What the resolution asks for at the end of the event (R119, R120, R127, R130). -/
def State.resolutionEnd (s : State) (n : Slot) : Resolution → State
  | .slotApplied _ => s.settleEnd n
  | .slotNotApplied =>
    (s.askCommit .notApplied n).onCommit n fun c => { c with followOn := false }
  | .entryNotApplied => s.askCommit .notApplied n
  | _ => s

/-! ### Unbinding and parking -/

/-- Step 2 of an unbinding: the Commit Unit acts by the phase, which becomes IDLE, and clears the follow-on mark
(R128). -/
def State.unbindCommit (s : State) (n : Slot) : State :=
  let s1 := match (s.commit n).phase with
    | .inFlight d nonce pre serial classIndex =>
      (s.onBoundEntry n fun e => { e with inDoubt := some ⟨d, pre⟩ }).setOrphan
        (some ⟨n, d, nonce, pre, serial, classIndex⟩)
    | .inDoubt d pre => s.onBoundEntry n fun e => { e with inDoubt := some ⟨d, pre⟩ }
    | _ => s
  s1.onCommit n fun _ => ⟨.idle, false⟩

/-- The copies of stage 2 of parking for one slot: its account and its in-doubt record (R131, R142). -/
def State.parkSlot (s : State) (n : Slot) : State :=
  let r := s.slot n
  let s1 := s.onBoundEntry n (parkedEntry r.level r.pendingDebit)
  match (s.commit n).phase with
  | .inDoubt d pre => s1.onBoundEntry n fun e => { e with inDoubt := some ⟨d, pre⟩ }
  | _ => s1

/-- A phase in which no DEBIT of the slot is queued or in flight (R131). -/
def CommitPhase.isSettled : CommitPhase → Bool
  | .idle => true
  | .inDoubt .. => true
  | _ => false

/-- The Commit Unit reports that the commits are done (R131). -/
def CommitUnit.allSettled (c : CommitUnit) : Bool :=
  c.records.all fun r => r.phase.isSettled

end Sys2Proof.Machine
end

