-- ==== Sys2Proof/Machine/Authentication.lean ====
section
/-! DEFINITION. Cartridge Authentication: identification and binding, challenges, failure and hold-off, arrival and
departure (R90 to R116). -/

namespace Sys2Proof.Machine

/-! ### Arrival and departure -/

/-- An arrival: the watch becomes ARRIVING, the EMPTY slot goes to SETTLING, INSERTED is raised, and within an open
swath the drop counts of the slot's lanes are cleared (R62, R74, R92). -/
def State.arrive (s : State) (n : Slot) : State :=
  let s1 := s.setWatch n (.arriving (some s.tables.insertSettle))
  if (s.slot n).state = .empty then
    let s2 := (s1.changeState n .settling).raiseSlot .inserted n
    if s2.swathIsOpen then s2.clearDrops n else s2
  else s1

/-- The queue is purged of a slot's requests, and a transaction in flight for the slot is marked as left (R88). -/
def State.purge (s : State) (n : Slot) : State :=
  s.onBus fun b =>
    { b with
      queue := b.queue.filter fun q => q.slot != n
      flight := b.flight.map fun f => if f.slot = n then { f with slotLeft := true } else f }

/-- The slot's account is written into its entry (R95 step 3, R141). -/
def State.writeAccount (s : State) (n : Slot) : State :=
  s.onBoundEntry n (unboundEntry (s.slot n).level (s.slot n).pendingDebit)

/-- Steps 4 and 5 of an unbinding: pending debit and residue 0, band none; the binding, L and the proven flag gone
(R95). -/
def State.clearAccount (s : State) (n : Slot) : State :=
  (s.setResidue n 0).onSlot n fun r =>
    { r with pendingDebit := 0, band := .none, binding := none, level := none, proven := false }

/-- The slot leaves its cartridge for a new state, by the steps of R95; a slot that is not bound runs steps 1, 4 and 6
alone. -/
def State.unbind (s : State) (n : Slot) (st : SlotState) : State :=
  let s1 := s.interimMetering n
  let s2 := if (s1.slot n).binding.isSome then (s1.unbindCommit n).writeAccount n else s1
  (s2.clearAccount n).changeState n st

/-- A cartridge leaves its socket, at a removal or a disable: nothing for an EMPTY slot; otherwise the slot goes to
EMPTY, its counters, timer and flags are cleared, and REMOVED is raised (R94, R96). -/
def State.leave (s : State) (n : Slot) : State :=
  if (s.slot n).state = .empty then s
  else
    let s1 := (s.unbind n .empty).onSlot n fun r =>
      { r with allowance := 0, attempts := 0, round := 0, countdown := 0, proven := false, holdoff := none }
    s1.raiseSlot .removed n

/-! ### Failure and hold-off -/

/-- The multiplier of a hold-off round (R109). -/
def holdoffMultiplier (round : Nat) : Nat :=
  if round ≤ 1 then 1 else if round = 2 then 2 else if round = 3 then 4 else 8

/-- A slot gives up: it goes to FOREIGN, unbound without leaving its socket if it was bound, and REJECTED is raised
(R112). -/
def State.giveUp (s : State) (n : Slot) : State :=
  let s1 := if (s.slot n).binding.isSome then s.unbind n .foreign else s.changeState n .foreign
  s1.raiseSlot .rejected n

/-- A slot goes to HOLDOFF for its next round (R109). -/
def State.holdOff (s : State) (n : Slot) : State :=
  let round := min ((s.slot n).round + 1) 255
  let s1 := s.onSlot n fun r =>
    { r with
      round := round
      attempts := 0
      countdown := 0
      holdoff := some (s.tables.holdoffBase * holdoffMultiplier round) }
  (s1.changeState n .holdoff).raiseSlot .holdoff n

/-- A slot's allowance is exhausted (R109, R111). -/
def State.exhaust (s : State) (n : Slot) : State :=
  if s.tables.limited && decide (s.tables.roundLimit ≤ (s.slot n).round) then s.giveUp n else s.holdOff n

/-- The same kind of transaction is requested again (R106, R107, R108). -/
def State.retry (s : State) (n : Slot) (k : BusKind) : State :=
  match k with
  | .challenge => s.askChallenge n
  | k => s.busPlace n k

/-- A failure: the attempt count rises, and the transaction is retried or the allowance is exhausted (R107). -/
def State.fail (s : State) (n : Slot) (k : BusKind) : State :=
  let attempts := (s.slot n).attempts + 1
  let s1 := s.onSlot n fun r => { r with attempts := attempts }
  if attempts < (s.slot n).allowance then s1.retry n k else s1.exhaust n

/-! ### Identification -/

/-- The fields of an IDENTIFY reply (Packets). -/
def parseIdentity (fields : List Byte) : Identity where
  serial := BitVec.ofNat 32 (leField fields 0 4)
  product := BitVec.ofNat 16 (leField fields 4 2)
  colours := byteAt fields 6
  generation := byteAt fields 7
  capacity := leField fields 8 4

/-- A class entry matches a product code (R98). -/
def ClassEntry.matches (c : ClassEntry) (product : BitVec 16) : Bool :=
  c.valid && ((product ^^^ c.code) &&& ~~~c.mask) == 0#16

/-- The first matching entry of the genuine class table (R98). -/
def Tables.classOf (t : Tables) (product : BitVec 16) : Option (Fin 16) :=
  (List.finRange 16).find? fun i => t.classes[i].matches product

/-- The serial is IN SLOT for another slot (R99). -/
def State.boundElsewhere (s : State) (serial : Word) (n : Slot) : Bool :=
  s.known.any fun e => e.serial == serial && (match e.residence with
    | some m => m != n
    | none => false)

/-- A slot's cartridge is rejected: it goes to the state given and REJECTED is raised (R98, R99, R100). -/
def State.reject (s : State) (n : Slot) (st : SlotState) : State :=
  (s.changeState n st).raiseSlot .rejected n

/-- The binding is recorded, and the cartridge's entry stands at position 0 as IN SLOT n (R99, R135). -/
def State.bindTo (s : State) (n : Slot) (id : Identity) (c : Fin 16) : State :=
  ((s.setResidue n 0).onSlot n fun r => { r with binding := some ⟨id, c⟩, level := none, proven := false }).onKnown
    fun l => bindEntry l id n

/-- The cartridge is bound to the slot (R99, R135 to R140). -/
def State.bind (s : State) (n : Slot) (id : Identity) (c : Fin 16) : State :=
  ((s.bindTo n id c).bindingChecks (s.entry id.serial) id s.tables.classes[c].ceiling).endBinding id.serial n

/-- The cartridge's colours fit the slot: those its class allows, and the slot requires (R99, R100). -/
def colourFits (t : Tables) (n : Slot) (id : Identity) (c : Fin 16) : Bool :=
  (id.colours &&& t.classes[c].colours &&& t.sockets[n].colours) != 0#8

/-- The state of a slot newly bound, by the first line of R100's table that applies. -/
def State.settleBinding (s : State) (n : Slot) (id : Identity) (c : Fin 16) (reused : Bool) : State :=
  if !colourFits s.tables n id c then s.reject n .misplaced
  else if reused then s.reject n .reused
  else (s.changeState n .authenticating).askChallenge n

/-- An identification: an IDENTIFY reply for an unbound slot (R98, R99, R100). The REFILL WARNING of the binding (R140) is added
before REJECTED (DEDUCED, log entry 39). -/
def State.identification (s : State) (n : Slot) (id : Identity) : State :=
  let s1 := s.onSlot n fun r => { r with attempts := 0 }
  match s.tables.classOf id.product with
  | none => s1.reject n .foreign
  | some c =>
    if s.boundElsewhere id.serial n then s1.reject n .foreign
    else (s1.bind n id c).settleBinding n id c (reuseFound (s.entry id.serial) id)

/-- A re-identification: an IDENTIFY reply for a bound slot (R101). -/
def State.reidentification (s : State) (n : Slot) (b : Binding) (id : Identity) : State :=
  if id = b.identity then
    ((s.onSlot n fun r => { r with attempts := 0 }).changeState n .authenticating).askChallenge n
  else s.fail n .identify

/-- The outcome of an IDENTIFY (R97, R98, R101, R107, R108). -/
def State.identifyOutcome (s : State) (n : Slot) (outcome : BusOutcome) : State :=
  if (s.slot n).state = .identifying then
    match outcome with
    | .replied fields =>
      match (s.slot n).binding with
      | none => s.identification n (parseIdentity fields)
      | some b => s.reidentification n b (parseIdentity fields)
    | .timeout => s.fail n .identify
    | .busFault => s.retry n .identify
  else s

/-! ### Challenges -/

/-- The cartridge bound to a slot is held suspect (R151). -/
def State.heldSuspect (s : State) (n : Slot) : Bool :=
  match (s.boundSerial n).bind s.entry with
  | some e => e.suspect
  | none => false

/-- Step 4 of a successful challenge: a slot in AUTHENTICATING raises GENUINE and enters GENUINE or SUSPECT, and the band is
recomputed after it (R105). -/
def State.enterProven (s : State) (n : Slot) : State :=
  if (s.slot n).state = .authenticating then
    ((s.raiseSlot .genuine n).onSlot n fun r => { r with proven := true }).changeState n
      (if s.heldSuspect n then .suspect else .genuine)
  else s

/-- A successful challenge that reports a level, in R105's order; then what its end asks for (R119, R120, R127,
R130). -/
def State.succeed (s : State) (n : Slot) (level : Nat) : State :=
  let entering := (s.slot n).state = .authenticating
  let resolution := s.resolution n level
  let s1 := s.onSlot n fun r => { r with attempts := 0, round := 0 }
  let s2 := (s1.resolve n resolution).judgeLevel n level
  let s3 := (s2.enterProven n).onSlot n fun r => { r with countdown := s.tables.interval }
  let s4 := s3.resolutionEnd n resolution
  if entering then s4.recheck n else s4

/-- The outcome of a CHALLENGE sent with a nonce (R97, R104, R107, R108). -/
def State.challengeOutcome (s : State) (n : Slot) (nonce : Word) (outcome : BusOutcome) : State :=
  if (s.slot n).state = .authenticating ∨ (s.slot n).state.isProven then
    match outcome with
    | .replied fields =>
      match (s.slot n).binding with
      | some b =>
        if replyTag fields = challengeTag s.tables b nonce (replyLevel fields) then s.succeed n (replyLevel fields)
        else (s.addWeight b.identity.serial s.tables.tagFailWeight).fail n .challenge
      | none => s
    | .timeout => s.fail n .challenge
    | .busFault => s.retry n .challenge
  else s

end Sys2Proof.Machine
end

