-- ==== Sys2Proof/Machine/Saving.lean ====
section
/-! DEFINITION. The Store's saves and the parking sequence's stages 2 and 3 (R131, R142, R176, R180). -/

namespace Sys2Proof.Machine

/-- An entry as the KNOWN section saves it: the carried debit and the refurbishment finding are not saved (R134). -/
def savedEntry (e : Entry) : Entry :=
  { e with carried := none, refurbished := false }

/-- The snapshot a save takes at its start: the seed is the nonce register, the write count one more than at present,
held at 65,535 (R180). CONFIG is written first. -/
def State.snapshot (s : State) : Save where
  config := configImage s.tables
  keys := s.tables.keys
  known := ⟨s.known.map savedEntry, s.nonce, min (s.store.writeCount + 1) 65535⟩
  writing := .config

/-- A save starts (R180). -/
def State.startSave (s : State) : State :=
  s.onStore fun t => { t with save := some s.snapshot }

/-- Set the park state (R175). -/
def State.setPark (s : State) (p : Park) : State :=
  s.onDecoder fun d => { d with park := p }

/-- Stage 2 of parking, and the start of stage 3: every slot's copies are written, and the parking save starts, or waits
for the save that runs (R176). -/
def State.parkingCopies (s : State) : State :=
  let s1 := allSlots.foldl State.parkSlot s
  if s1.store.save.isSome then s1.setPark (.parking .waitingSave)
  else s1.startSave.setPark (.parking .saving)

/-- Stage 1 of parking ends within the event that leaves every commit record IDLE or IN DOUBT (R131, R176). -/
def State.endStage1 (s : State) : State :=
  if s.decoder.park = .parking .commits ∧ s.commits.allSettled then s.parkingCopies else s

end Sys2Proof.Machine
end

