-- ==== Sys2Proof/Machine/SupplyBus.lean ====
section
/-! DEFINITION. The Supply Bus Master's transactions: the choice of the next request, the command packet, the beginning
and the end of a transaction (R72, R79 to R89, R102, R121). -/

namespace Sys2Proof.Machine

/-- The nonce register's increment (R102). -/
def nonceStep : Word := 2654435769#32

/-- The kind byte of a command packet (Packets). -/
def BusKind.code : BusKind → Byte
  | .identify => 1#8
  | .challenge => 2#8
  | .debit => 3#8

/-- The command packet's bytes before its CRC-8: bus address n + 1, kind, and the arguments its kind has (R72,
Packets). -/
def commandBody (n : Slot) (k : BusKind) (nonce : Word) (amount : Nat) : List Byte :=
  BitVec.ofNat 8 (n.val + 1) :: k.code ::
    match k with
    | .identify => []
    | .challenge => leBytes 4 nonce.toNat
    | .debit => leBytes 4 nonce.toNat ++ leBytes 4 amount

/-- The command packet (R79, R82). -/
def commandPacket (n : Slot) (k : BusKind) (nonce : Word) (amount : Nat) : List Byte :=
  let body := commandBody n k nonce amount
  body ++ [crc8 body]

/-- The bytes of the reply a kind calls for (R83). -/
def BusKind.replyLength : BusKind → Nat
  | .identify => 13
  | .challenge => 9
  | .debit => 9

/-- The request to take: the oldest DEBIT, else the oldest CHALLENGE, else the oldest IDENTIFY (R81). -/
def nextRequest (q : List BusRequest) : Option BusRequest :=
  match q.find? fun r => r.kind == .debit with
  | some r => some r
  | none =>
    match q.find? fun r => r.kind == .challenge with
    | some r => some r
    | none => q.head?

/-- The transaction becomes the one in flight, the bus BUSY, and its command is sent, or waits for a line held low
(R82). -/
def State.putInFlight (s : State) (n : Slot) (k : BusKind) (nonce : Word) (amount : Nat) : State :=
  s.onBus fun b =>
    { b with
      status := .busy
      flight := some
        { slot := n
          kind := k
          nonce := nonce
          amount := amount
          stage := if s.busLow then .waiting else .sending
          packet := commandPacket n k nonce amount
          slotLeft := false } }

/-- The nonce register advances (R102). -/
def State.advanceNonce (s : State) : State :=
  s.onNonce fun w => w + nonceStep

/-- The amount D of a DEBIT request that is taken (R121). -/
def State.debitAmount (s : State) (n : Slot) : Nat :=
  if (s.slot n).state.isProven ∧ (s.commit n).phase = .waiting then
    min (s.slot n).pendingDebit ((s.slot n).level.getD 0)
  else 0

/-- A DEBIT of amount 0 is dropped (R82, R121). -/
def State.dropDebit (s : State) (n : Slot) : State :=
  s.onCommit n fun c => { phase := if c.phase = .waiting then .idle else c.phase, followOn := false }

/-- The DEBIT's commit record goes IN FLIGHT: amount, nonce, pre-level, and the binding's serial and class index
(R121). -/
def State.recordFlight (s : State) (n : Slot) (d : Nat) : State :=
  match (s.slot n).binding with
  | some b =>
    s.onCommit n fun c =>
      { c with phase := .inFlight d s.nonce ((s.slot n).level.getD 0) b.identity.serial b.classIndex }
  | none => s

/-- A request taken begins its transaction, but for a DEBIT of amount 0 (R82). -/
def State.beginTransaction (s : State) (r : BusRequest) : State :=
  match r.kind with
  | .identify => s.putInFlight r.slot .identify 0#32 0
  | .challenge =>
    let s1 := s.advanceNonce
    s1.putInFlight r.slot .challenge s1.nonce 0
  | .debit =>
    let d := s.debitAmount r.slot
    if d = 0 then s.dropDebit r.slot
    else
      let s1 := s.advanceNonce
      (s1.recordFlight r.slot d).putInFlight r.slot .debit s1.nonce d

/-- The line is free for a request: the bus is IDLE and nothing is in flight (R81). -/
def Bus.isFree (b : Bus) : Bool :=
  b.status == .idle && b.flight.isNone

/-- One request is taken from the queue, if the line is free (R81, R82). -/
def State.takeOne (s : State) : State :=
  if s.bus.isFree then
    match nextRequest s.bus.queue with
    | some r => (s.onBus fun b => { b with queue := b.queue.erase r }).beginTransaction r
    | none => s
  else s

/-- Requests are taken until a transaction is in flight or the queue is empty: a dropped DEBIT lets the next be taken at
once (R82). The number bounds the takes by the queue's length. -/
def State.takeRequests : Nat → State → State
  | 0, s => s
  | k + 1, s => takeRequests k s.takeOne

/-- The Supply Bus Master considers its queue (R81). -/
def State.considerQueue (s : State) : State :=
  s.takeRequests s.bus.queue.length

/-- The end of a command that may have placed requests, ended a transaction or freed the bus: the queue is considered
(R81), stage 1 of parking may end (R131), and the transmitters begin what waits (R9, R12). -/
def State.finish (s : State) : State :=
  s.considerQueue.endStage1.sendNext

/-- An outcome is delivered (R87, R88): a DEBIT's to the Commit Unit; an IDENTIFY's or CHALLENGE's to the Authentication
Unit, or to no unit where the slot has left. -/
def State.deliver (s : State) (f : Flight) (outcome : BusOutcome) : State :=
  match f.kind with
  | .debit => s.debitOutcome f.slot outcome
  | .identify => if f.slotLeft then s else s.identifyOutcome f.slot outcome
  | .challenge => if f.slotLeft then s else s.challengeOutcome f.slot f.nonce outcome

/-- The transaction in flight ends with an outcome: it is removed, the bus becomes IDLE unless it is in FAULT, and the
outcome is delivered (R83, R84, R85, R87). -/
def State.endTransaction (s : State) (f : Flight) (outcome : BusOutcome) : State :=
  (s.onBus fun b =>
    { b with flight := none, status := if b.status = .fault then .fault else .idle }).deliver f outcome

/-- The outcome a complete reply gives: REPLIED, or TIMEOUT where its CRC-8 is wrong (R79, R83). -/
def replyOutcome (reply : List Byte) : BusOutcome :=
  let body := reply.dropLast
  if reply.getLast? = some (crc8 body) then .replied body else .timeout

end Sys2Proof.Machine
end

