-- ==== Sys2Proof/Machine/Operands.lean ====
section
/-! DEFINITION. The operands of the frame commands: the envelope's checks (R2 to R5) and the payload layouts of SWATH
OPEN, FIRE, SWATH CLOSE, REQUEST and HEAD STATUS. -/

namespace Sys2Proof.Machine

/-- The most payload bytes a frame may hold: a frame is 6 to 4,102 bytes long (R1, The Frame Envelope). -/
def maxPayload : Nat := 4096

/-! ### Payload layouts -/

/-- SWATH OPEN: the head count h. -/
def openHeadCount (p : List Byte) : Nat := (byteAt p 6).toNat

/-- SWATH OPEN: the window count w. -/
def openWindowCount (p : List Byte) : Nat := (byteAt p 7).toNat

/-- SWATH OPEN: the head entries, head number and waveform set. -/
def openHeads (p : List Byte) : List (Nat × Nat) :=
  (List.range (openHeadCount p)).map fun i => ((byteAt p (8 + 2 * i)).toNat, (byteAt p (9 + 2 * i)).toNat)

/-- SWATH OPEN: the window entries, first and last column. -/
def openWindows (p : List Byte) : List (Nat × Nat) :=
  (List.range (openWindowCount p)).map fun i =>
    (leField p (8 + 2 * openHeadCount p + 4 * i) 2, leField p (10 + 2 * openHeadCount p + 4 * i) 2)

/-- SWATH OPEN and SWATH CLOSE: the swath number. -/
def swathNumber (p : List Byte) : Word := BitVec.ofNat 32 (leField p 0 4)

/-- SWATH OPEN: the column count. -/
def openColumns (p : List Byte) : Nat := leField p 4 2

/-- FIRE: the head. -/
def fireHead (p : List Byte) : Nat := (byteAt p 0).toNat

/-- FIRE: the lane. -/
def fireLane (p : List Byte) : Nat := (byteAt p 1).toNat

/-- FIRE: the first column. -/
def fireFirst (p : List Byte) : Nat := leField p 2 2

/-- FIRE: the column count n. -/
def fireCount (p : List Byte) : Nat := (byteAt p 4).toNat

/-- Bytes of drop codes in one column of one lane. -/
def columnBytes : Nat := 128

/-- FIRE: the column data of the frame's column `j`, 128 bytes. -/
def fireColumn (p : List Byte) (j : Nat) : List Byte :=
  (p.drop (5 + columnBytes * j)).take columnBytes

/-- The four drop codes of a byte, lowest nozzle first (Drop-code packing). -/
def dropCodes (b : Byte) : List (BitVec 2) :=
  [b.extractLsb' 0 2, b.extractLsb' 2 2, b.extractLsb' 4 2, b.extractLsb' 6 2]

/-- A byte with each of its drop codes changed by `f`. -/
def mapCodes (f : BitVec 2 → BitVec 2) (b : Byte) : Byte :=
  f (b.extractLsb' 6 2) ++ f (b.extractLsb' 4 2) ++ f (b.extractLsb' 2 2) ++ f (b.extractLsb' 0 2)

/-! ### The checks of the envelope -/

/-- The payload's length agrees with the frame's kind (R4). -/
def lengthAgrees (k : FrameKind) (p : List Byte) : Bool :=
  match k with
  | .swathOpen =>
    decide (8 ≤ p.length) && decide (1 ≤ openHeadCount p) && decide (openHeadCount p ≤ 4)
      && decide (openWindowCount p ≤ 2)
      && decide (p.length = 8 + 2 * openHeadCount p + 4 * openWindowCount p)
      && (openHeads p).all fun e => decide (e.1 ≤ 3)
  | .fire =>
    decide (5 ≤ p.length) && decide (1 ≤ fireCount p) && decide (fireCount p ≤ 16)
      && decide (p.length = 5 + columnBytes * fireCount p)
  | .swathClose => decide (p.length = 4)
  | .request => decide (2 ≤ p.length)
  | .reply => decide (3 ≤ p.length)
  | .notice => decide (p.length = 2)
  | .headStatus => decide (p.length = 4)

/-- The received CRC is that of the received kind, destination, length and payload (R2). -/
def crcMatches (k : FrameKind) (f : RxFrame) : Bool :=
  crc16 (coveredBytes k.code f.destination f.lengthField.toNat f.payload) == f.crc

/-- A received frame of a kind of its lane passes R1, R2 and R4. -/
def accepted (k : FrameKind) (f : RxFrame) : Bool :=
  decide (f.payload.length ≤ maxPayload) && decide (f.payload.length = f.lengthField.toNat)
    && lengthAgrees k f.payload && crcMatches k f

/-- A frame as received, to be forwarded or passed through unchanged (R8, R10). -/
def asReceived (k : FrameKind) (f : RxFrame) : Frame :=
  ⟨k, f.destination, f.payload, f.crc⟩

/-- The frame that the bytes between START and END are, where there are at least the six bytes of the envelope: the kind
byte and the rest. -/
def parseFrame (bytes : List Byte) : Option (Byte × RxFrame) :=
  if 6 ≤ bytes.length then
    some (byteAt bytes 0,
      { destination := byteAt bytes 1
        lengthField := BitVec.ofNat 16 (leField bytes 2 2)
        payload := (bytes.drop 4).take (bytes.length - 6)
        crc := BitVec.ofNat 16 (leField bytes (bytes.length - 2) 2) })
  else none

/-- The kinds of the downstream lane, FMT IN (R3). -/
def fmtKind (b : Byte) : Option FrameKind :=
  if b = 1#8 then some .swathOpen
  else if b = 2#8 then some .fire
  else if b = 3#8 then some .swathClose
  else if b = 4#8 then some .request
  else none

/-- The kinds of the upstream lane, HEAD IN (R3). -/
def headKind (b : Byte) : Option FrameKind :=
  if b = 5#8 then some .reply
  else if b = 6#8 then some .notice
  else if b = 7#8 then some .headStatus
  else none

/-- The kind and frame of a whole frame of a lane that passes R1 to R4, given the lane's kinds. -/
def acceptedFrame (lane : Byte → Option FrameKind) (bytes : List Byte) : Option (FrameKind × RxFrame) :=
  match parseFrame bytes with
  | some (b, f) =>
    match lane b with
    | some k => if accepted k f then some (k, f) else none
    | none => none
  | none => none

/-! ### HEAD STATUS -/

/-- HEAD STATUS: the head field. -/
def statusHead (p : List Byte) : Nat := (byteAt p 0).toNat

/-- HEAD STATUS: the sensor-valid flag. -/
def statusValid (p : List Byte) : Bool := (byteAt p 1).getLsbD 0

/-- HEAD STATUS: the temperature, signed half-degrees. -/
def statusTemperature (p : List Byte) : Int := signed16 (leField p 2 2)

end Sys2Proof.Machine
end

