-- ==== Sys2Proof/Machine/Temperature.lean ====
section
/-! DEFINITION. The Temperature Tracker: reading reports, staleness, the compensation curve and the factor at swath open
(R42 to R52), and the meaning of TEMP_STALE. -/

namespace Sys2Proof.Machine

/-- The reported temperature: clamped to −80 to +300 half-degrees (R43). -/
def clampTemperature (t : Int) : Int := max (-80) (min t 300)

/-- The tracked temperature moved toward the reported one by at most the slew limit (R45). -/
def slew (limit : Nat) (tracked reported : Int) : Int :=
  if tracked + limit < reported then tracked + limit
  else if reported < tracked - limit then tracked - limit
  else reported

/-- A valid report for a head (R44, R45). -/
def validReport (t : Tables) (reported : Int) (h : HeadRecord) : HeadRecord where
  tracked := if h.neverReported then reported else slew t.slewLimit h.tracked reported
  neverReported := false
  stale := false
  staleTimer := some t.staleTime

/-- The Temperature Tracker reads a HEAD STATUS payload (R43 to R46). -/
def State.readStatus (s : State) (p : List Byte) : State :=
  if h : statusHead p < 4 then
    if statusValid p then
      s.onHead ⟨statusHead p, h⟩ (validReport s.tables (clampTemperature (statusTemperature p)))
    else s
  else s

/-- The factor between two points of the curve, the quotient rounded toward zero (R50). -/
def interpolate (a b : CurvePoint) (t : Int) : Int :=
  a.factor + (((b.factor : Int) - a.factor) * (t - a.temperature)).tdiv (b.temperature - a.temperature)

/-- The factor at a temperature on the points of a curve, lowest first, the temperature being above the first point
(R50): the last point's factor at or beyond it, and otherwise that of the segment the temperature lies in. -/
def factorAlong : List CurvePoint → Int → Nat
  | a :: b :: rest, t =>
    if t < b.temperature then (interpolate a b t).toNat else factorAlong (b :: rest) t
  | [a], _ => a.factor
  | [], _ => 0

/-- The factor of the compensation curve at a temperature (R50). -/
def curveFactor (curve : Vector CurvePoint 8) (t : Int) : Nat :=
  if t ≤ curve[0].temperature then curve[0].factor
  else if curve[7].temperature ≤ t then curve[7].factor
  else factorAlong curve.toList t

/-- The compensation factor of a head at the opening of a swath: the fallback factor if it is stale, otherwise the
curve's (R50). -/
def factorAtOpen (t : Tables) (h : HeadRecord) : Nat :=
  if h.stale then t.fallbackFactor else curveFactor t.curve h.tracked

/-- A curve is valid when its temperatures are strictly increasing (R49). -/
def curveValid (curve : Vector CurvePoint 8) : Bool :=
  (List.finRange 7).all fun k =>
    decide ((curve[k.val]'(by omega)).temperature < (curve[k.val + 1]'(by omega)).temperature)

/-- The stale timer of a head expires: it stops, the head is stale, and TEMP STALE is raised (R47). -/
def State.goStale (s : State) (h : Head) : State :=
  (s.onHead h fun r => { r with stale := true, staleTimer := none }).raise .tempStale h.val 0#32

/-- TEMP_STALE (R47): nothing where the timer does not run. -/
def execTempStale (h : Head) (s : State) : Answer :=
  .next (whenRunning (fun s => if s.heads[h].staleTimer.isSome then (s.goStale h).sendNext else s) s)

end Sys2Proof.Machine
end

