-- ==== Sys2Proof/Machine/SwathPath.lean ====
section
/-! DEFINITION. The Swath Path: promotion, opening, refusal, FIRE frames, closing and truncation (R17 to R41, R162). -/

namespace Sys2Proof.Machine

/-! ### Promotion -/

/-- The table that stands after an opening: the copy where it is READY, otherwise the active one (R162). -/
def promoted {α : Type} (copy : Staging α) (active : α) : α :=
  match copy with
  | .ready c => c
  | _ => active

/-- The staging copy after an opening: a READY copy is promoted or discarded, and another stays (R162). -/
def Staging.afterOpening {α : Type} (copy : Staging α) : Staging α :=
  match copy with
  | .ready _ => .none
  | c => c

/-- The staged curve is READY and its temperatures are not strictly increasing (R49, R162). -/
def curveRejected (copy : Staging (Vector CurvePoint 8)) : Bool :=
  match copy with
  | .ready c => !curveValid c
  | _ => false

/-- Step 1 of an opening: every READY staging copy becomes the active table, but for a curve that is not valid, which is
discarded with TABLE REJECTED (R19, R162). -/
def State.promote (s : State) : State :=
  let d := s.decoder
  let rejected := curveRejected d.curveCopy
  let s1 := s.onTables fun t =>
    { t with
      drop := promoted d.dropCopy t.drop
      curve := if rejected then t.curve else promoted d.curveCopy t.curve
      lanes := promoted d.laneCopy t.lanes
      thin := promoted d.thinCopy t.thin
      policy := promoted d.policyCopy t.policy }
  let s2 := s1.onDecoder fun d =>
    { d with
      dropCopy := d.dropCopy.afterOpening
      curveCopy := d.curveCopy.afterOpening
      laneCopy := d.laneCopy.afterOpening
      thinCopy := d.thinCopy.afterOpening
      policyCopy := d.policyCopy.afterOpening }
  if rejected then s2.raise .tableRejected 0 0#32 else s2

/-! ### The descriptor -/

/-- No two entries of the list name one head (R18). -/
def headsDistinct : List (Nat × Nat) → Bool
  | [] => true
  | e :: rest => (rest.all fun o => o.1 != e.1) && headsDistinct rest

/-- The descriptor of a SWATH OPEN payload is valid (R18). -/
def descriptorValid (p : List Byte) : Bool :=
  decide (openColumns p ≠ 0) && ((openHeads p).all fun e => decide (e.2 ≤ 3)) && headsDistinct (openHeads p)

/-- A service window clipped to the column count, where it is not ignored (R18). -/
def clipWindow (columns : Nat) (w : Nat × Nat) : Option (Nat × Nat) :=
  let last := if columns ≤ w.2 then columns - 1 else w.2
  if last < w.1 then none else some (w.1, last)

/-- The use of a head that a valid descriptor gives: its waveform set and the factor at the opening (R17, R19). -/
def headUse (t : Tables) (heads : Vector HeadRecord 4) (entries : List (Nat × Nat)) (h : Head) : Option HeadUse :=
  match entries.find? fun e => e.1 == h.val with
  | some e => if w : e.2 < 4 then some ⟨⟨e.2, w⟩, factorAtOpen t heads[h]⟩ else none
  | none => none

/-- The descriptor that an opening records (R17 to R19). -/
def makeDescriptor (t : Tables) (heads : Vector HeadRecord 4) (p : List Byte) : Descriptor where
  number := swathNumber p
  columns := openColumns p
  heads := Vector.ofFn fun h => headUse t heads (openHeads p) h
  windows := (openWindows p).filterMap (clipWindow (openColumns p))

/-! ### The end of a swath -/

/-- An open swath ends: its closing record is handed over, the descriptor discarded and the state GAP (R31, R34). -/
def State.endSwath (s : State) (d : Descriptor) : State :=
  (s.handOver d).onSwath fun w => { w with descriptor := none }

/-- A truncation of the open swath, if one is open (R34). SWATH TRUNCATED is added behind the BAND events of its metering (DEDUCED,
log entry 39). -/
def State.truncate (s : State) : State :=
  match s.swath.descriptor with
  | some d => (s.endSwath d).raise .swathTruncated 0 d.number
  | none => s

/-- The SWATH CLOSE that a truncation generates, if a swath is open (R34). -/
def State.truncationFrames (s : State) : List Frame :=
  match s.swath.descriptor with
  | some d => [closeFrame d.number]
  | none => []

/-! ### Opening -/

/-- Steps 2 to 5 of an opening, with the tables that step 1 leaves (R19). -/
def State.recordOpening (s : State) (p : List Byte) : State :=
  (s.latchAll).onSwath fun w =>
    { w with
      taken := Vector.replicate 32 0
      drops := Vector.replicate 32 ⟨0, 0, 0⟩
      descriptor := some (makeDescriptor s.tables s.heads p)
      lastNumber := swathNumber p
      refused := false }

/-- A SWATH OPEN is refused once any open swath has been truncated (R21). -/
def State.refuseSwath (s : State) (p : List Byte) : State :=
  (s.raise .strayFire 0 (swathNumber p)).onSwath fun w => { w with refused := true }

/-- The Swath Path takes a SWATH OPEN frame (R18 to R21, R35): a swath that is open is truncated first. -/
def State.takeSwathOpen (s : State) (f : RxFrame) : State :=
  let s1 := s.truncate.forward s.truncationFrames
  if s.decoder.park = .active ∧ descriptorValid f.payload then
    (s1.promote.recordOpening f.payload).forward [asReceived .swathOpen f]
  else s1.refuseSwath f.payload

/-! ### FIRE -/

/-- The open swath's descriptor, the head's use and the lane index of a FIRE frame that is not stray (R24). -/
def State.fireTarget (s : State) (p : List Byte) : Option (Descriptor × HeadUse × LaneIndex) :=
  match s.swath.descriptor with
  | none => none
  | some d =>
    if h : fireHead p < 4 ∧ fireLane p < 8 then
      match d.heads[(⟨fireHead p, h.1⟩ : Head)] with
      | some u => some (d, u, laneIndex ⟨fireHead p, h.1⟩ ⟨fireLane p, h.2⟩)
      | none => none
    else none

/-- A stray FIRE or SWATH CLOSE: STRAY FIRE with the number of the last swath opened, unless the refused-swath marker is
set (R24, R32, R41). -/
def State.strayFire (s : State) : State :=
  if s.swath.refused then s else s.raise .strayFire 0 s.swath.lastNumber

/-- How many of a frame's `n` columns from `first` are kept: those below the column count N, and of them no more than
the lane's allowance N − T (R25). -/
def columnsKept (n first columns taken : Nat) : Nat :=
  min (min n (columns - first)) (columns - taken)

/-- A column inside a service window (R18). -/
def Descriptor.isWindow (d : Descriptor) (column : Nat) : Bool :=
  d.windows.any fun w => decide (w.1 ≤ column) && decide (column ≤ w.2)

/-- The thinning map's value for a waveform set and a code (R27, R158). -/
def Tables.thinned (t : Tables) (w : Fin 4) (c : BitVec 2) : BitVec 2 :=
  t.thin[4 * w.val + c.toNat]'(by have := c.isLt; have := w.isLt; omega)

/-- A code after gating, in a window column or a gated one (R27). -/
def gateCode (t : Tables) (a : Action) (w : Fin 4) (window : Bool) (c : BitVec 2) : BitVec 2 :=
  if window then c
  else
    match a with
    | .pass => c
    | .thin => t.thinned w c
    | .blank => 0#2

/-- A code as forwarded (R26 to R28): 0 on an UNUSED lane; otherwise gated, and set to 0 where its nominal volume is 0.
`lane` is the latched action of the slot the lane is mapped to, if any. -/
def forwardCode (t : Tables) (lane : Option Action) (w : Fin 4) (window : Bool) (c : BitVec 2) : BitVec 2 :=
  match lane with
  | none => 0#2
  | some a =>
    let g := gateCode t a w window c
    if t.nominal w g = 0 then 0#2 else g

/-- A code that was nonzero as received is set to 0 by R26 or by R28. -/
def blankedUnmeterable (t : Tables) (lane : Option Action) (w : Fin 4) (window : Bool) (c : BitVec 2) : Bool :=
  c != 0#2 &&
    match lane with
    | none => true
    | some a =>
      let g := gateCode t a w window c
      g != 0#2 && t.nominal w g == 0

/-- The drop codes of a column, nozzle 0 first. -/
def columnCodes (column : List Byte) : List (BitVec 2) :=
  column.flatMap dropCodes

/-- The drops that codes fire, by size (R29). -/
def countDrops (codes : List (BitVec 2)) : DropCount where
  small := codes.count 1#2
  medium := codes.count 2#2
  large := codes.count 3#2

/-- Two drop counts added, size by size. -/
def DropCount.plus (a b : DropCount) : DropCount :=
  ⟨a.small + b.small, a.medium + b.medium, a.large + b.large⟩

/-- The latched action that governs a lane, if the lane map gives it a slot (R26). -/
def State.laneAction (s : State) (i : LaneIndex) : Option Action :=
  s.tables.lanes[i].map fun n => s.swath.latched[n]

/-- The columns of a FIRE frame as forwarded, of which `kept` are kept (R26 to R28). -/
def State.columnsOut (s : State) (d : Descriptor) (u : HeadUse) (i : LaneIndex) (p : List Byte) (kept : Nat) :
    List (List Byte) :=
  (List.range kept).map fun j =>
    (fireColumn p j).map (mapCodes (forwardCode s.tables (s.laneAction i) u.wave (d.isWindow (fireFirst p + j))))

/-- BLANKED UNMETERABLE is due for the frame (R28). -/
def State.blanksUnmeterable (s : State) (d : Descriptor) (u : HeadUse) (i : LaneIndex) (p : List Byte) (kept : Nat) :
    Bool :=
  (List.range kept).any fun j =>
    (columnCodes (fireColumn p j)).any
      (blankedUnmeterable s.tables (s.laneAction i) u.wave (d.isWindow (fireFirst p + j)))

/-- The FIRE frame as forwarded: as received where nothing changed, and otherwise with the columns kept (R8, R30). -/
def fireFrame (f : RxFrame) (kept : Nat) (out : List (List Byte)) : Frame :=
  if kept = fireCount f.payload ∧ out = (List.range kept).map (fireColumn f.payload) then asReceived .fire f
  else makeFrame .fire f.destination (f.payload.take 4 ++ BitVec.ofNat 8 kept :: out.flatten)

/-- The columns kept of a FIRE frame are taken, gated, counted and forwarded (R25 to R30). -/
def State.fireKept (s : State) (f : RxFrame) (d : Descriptor) (u : HeadUse) (i : LaneIndex) (kept : Nat) : State :=
  let out := s.columnsOut d u i f.payload kept
  let s1 := s.onSwath fun w => { w with taken := changeAt w.taken i fun t => t + kept }
  let s2 := if s.blanksUnmeterable d u i f.payload kept then s1.raise .blankedUnmeterable 0 d.number else s1
  let s3 :=
    if s.tables.lanes[i].isSome then
      s2.onSwath fun w => { w with drops := changeAt w.drops i fun c => c.plus (countDrops (columnCodes out.flatten)) }
    else s2
  s3.forward [fireFrame f kept out]

/-- The Swath Path takes a FIRE frame (R24 to R30). -/
def State.takeFire (s : State) (f : RxFrame) : State :=
  match s.fireTarget f.payload with
  | none => s.strayFire
  | some (d, u, i) =>
    let kept := columnsKept (fireCount f.payload) (fireFirst f.payload) d.columns s.swath.taken[i]
    let s1 := if kept < fireCount f.payload then s.raise .columnOverrun 0 d.number else s
    if kept = 0 then s1 else s1.fireKept f d u i kept

/-! ### Closing -/

/-- The Swath Path takes a SWATH CLOSE frame (R31, R32). -/
def State.takeSwathClose (s : State) (f : RxFrame) : State :=
  match s.swath.descriptor with
  | some d => (s.endSwath d).forward [asReceived .swathClose f]
  | none => s.strayFire.onSwath fun w => { w with refused := false }

end Sys2Proof.Machine
end

