-- ==== Sys2Proof/Machine/PrintLink.lean ====
section
/-! DEFINITION. The Print Link: receipt on FMT IN and HEAD IN, the queuing of requests, link loss and link reset (R1 to R16,
R43, R156), and the meanings of the link's commands at whose end no request is taken. -/

namespace Sys2Proof.Machine

/-! ### The receivers -/

/-- The most bytes a frame may have between START and END (R1). -/
def maxFrameBytes : Nat := 4102

/-- What a symbol completes in a receiver (R1). -/
inductive Received where
  | nothing
  /-- A frame that is incomplete. -/
  | incomplete
  /-- A frame received whole: its bytes between START and END. -/
  | whole (bytes : List Byte)
  deriving DecidableEq, Repr

/-- A receiver takes a symbol: where it then stands, and what the symbol completes (R1). Symbols between frames carry nothing
(log entry 15); a frame is incomplete at the byte that is too many, and the receiver then waits for START (log entry 32). -/
def receive (r : Option (List Byte)) (symbol : Symbol) : Option (List Byte) × Received :=
  match r, symbol with
  | none, .start => (some [], .nothing)
  | none, _ => (none, .nothing)
  | some _, .start => (some [], .incomplete)
  | some _, .fill => (none, .incomplete)
  | some bytes, .data b =>
    if bytes.length < maxFrameBytes then (some (bytes ++ [b]), .nothing) else (none, .incomplete)
  | some bytes, .stop => (none, .whole bytes)

/-! ### Receipt on FMT IN -/

/-- A symbol arrives on FMT IN: the link is UP and its timer started afresh (R13). -/
def State.symbolArrives (s : State) : State :=
  s.onLink fun l => { l with up := true, lossTimer := some s.tables.linkLossTime }

/-- Set FMT IN's receiver. -/
def State.setReceiver (s : State) (r : Option (List Byte)) : State :=
  s.onLink fun l => { l with receiver := r }

/-- The forward queue has so many free places (R7). -/
def State.hasPlaces (s : State) (n : Nat) : Bool :=
  decide (s.link.forward.length + n ≤ 4)

/-- A REQUEST frame's destination matches the link address under the mask: the frame is taken (R6). -/
def State.isAddressed (s : State) (destination : Byte) : Bool :=
  ((destination ^^^ s.link.address) &&& ~~~s.tables.addressMask) == 0#8

/-- The request in a REQUEST payload: code, tag, arguments (R155). -/
def parseRequest (p : List Byte) : Request := ⟨byteAt p 0, byteAt p 1, p.drop 2⟩

/-- A taken REQUEST is handed to the Request Decoder, which queues it or loses it (R156). -/
def State.queueRequest (s : State) (r : Request) : State :=
  if s.decoder.requests.length < 4 then s.onDecoder fun d => { d with requests := d.requests ++ [r] }
  else s.raise .requestOverflow 0 (r.tag.setWidth 32)

/-- A REQUEST frame that passes R2 to R4 is taken, forwarded, or discarded for want of a place (R6, R7). -/
def State.takeRequestFrame (s : State) (f : RxFrame) : State :=
  if s.isAddressed f.destination then s.queueRequest (parseRequest f.payload)
  else if s.hasPlaces 1 then s.forward [asReceived .request f]
  else s.discardFrame

/-- A frame of FMT IN that passes R2 to R4 is checked for its places and goes to its block (R7). The last line is met by
no kind of the lane. -/
def State.takeFmtFrame (s : State) (k : FrameKind) (f : RxFrame) : State :=
  match k with
  | .swathOpen => if s.hasPlaces 2 then s.takeSwathOpen f else s.discardFrame
  | .fire => if s.hasPlaces 1 then s.takeFire f else s.discardFrame
  | .swathClose => if s.hasPlaces 1 then s.takeSwathClose f else s.discardFrame
  | .request => s.takeRequestFrame f
  | _ => s.discardFrame

/-- The symbols of a whole frame arrive on FMT IN, from START to END: the link is UP, and the frame that the START
interrupts, if there is one, is incomplete (R1, R13). -/
def State.frameArrives (s : State) : State :=
  let s1 := s.symbolArrives
  if s.link.receiver.isSome then s1.discardFrame.setReceiver none else s1

/-- A whole frame of a kind is received on FMT IN (R1 to R7). -/
def State.receiveFmt (s : State) (k : FrameKind) (f : RxFrame) : State :=
  let s1 := s.frameArrives
  if accepted k f then s1.takeFmtFrame k f else s1.discardFrame

/-- One symbol is received on FMT IN (R1 to R7, R13). -/
def State.receiveSymbol (s : State) (symbol : Symbol) : State :=
  let (r, got) := receive s.link.receiver symbol
  let s1 := s.setReceiver r
  match got with
  | .nothing => s1
  | .incomplete => s1.discardFrame
  | .whole bytes =>
    match acceptedFrame fmtKind bytes with
    | some (k, f) => s1.takeFmtFrame k f
    | none => s1.discardFrame

/-! ### Receipt on HEAD IN -/

/-- A frame is placed in the pass-through queue, whose oldest frame is removed if it holds eight (R10). -/
def State.passThrough (s : State) (f : Frame) : State :=
  s.onLink fun l =>
    { l with passThrough := (if l.passThrough.length < 8 then l.passThrough else l.passThrough.drop 1) ++ [f] }

/-- The frame kind of a frame that only passes through. -/
def passFrameKind : PassKind → FrameKind
  | .reply => .reply
  | .notice => .notice

/-- Set HEAD IN's receiver. -/
def State.setHeadReceiver (s : State) (r : Option (List Byte)) : State :=
  s.onLink fun l => { l with headReceiver := r }

/-- A frame of HEAD IN that passes R2 to R4 is passed through, a HEAD STATUS after the Temperature Tracker has read it (R10,
R43). -/
def State.takeHeadFrame (s : State) (k : FrameKind) (f : RxFrame) : State :=
  match k with
  | .headStatus => (s.readStatus f.payload).passThrough (asReceived k f)
  | _ => s.passThrough (asReceived k f)

/-- The symbols of a whole frame arrive on HEAD IN, from START to END: the frame that the START interrupts, if there is one, is
incomplete (R1). The link state does not concern this lane (R13). -/
def State.headFrameArrives (s : State) : State :=
  if s.link.headReceiver.isSome then s.discardFrame.setHeadReceiver none else s

/-- A whole frame of a kind is received on HEAD IN (R1 to R5, R10). -/
def State.receiveHead (s : State) (k : FrameKind) (f : RxFrame) : State :=
  let s1 := s.headFrameArrives
  if accepted k f then s1.takeHeadFrame k f else s1.discardFrame

/-- One symbol is received on HEAD IN (R1 to R5, R10). -/
def State.receiveHeadSymbol (s : State) (symbol : Symbol) : State :=
  let (r, got) := receive s.link.headReceiver symbol
  let s1 := s.setHeadReceiver r
  match got with
  | .nothing => s1
  | .incomplete => s1.discardFrame
  | .whole bytes =>
    match acceptedFrame headKind bytes with
    | some (k, f) => s1.takeHeadFrame k f
    | none => s1.discardFrame

/-- What was received is to be discarded by R5. A symbol on HEAD IN is taken by the receiver, which finds whether a frame is to
be. -/
def discarded : Discarded → Bool
  | .headSymbol _ => true
  | .headFrame bytes => (acceptedFrame headKind bytes).isNone
  | .fmtFrame bytes => (acceptedFrame fmtKind bytes).isNone

/-- What a DISCARDED_FRAME command receives is received, and discarded by R5. -/
def State.receiveDiscarded (s : State) : Discarded → State
  | .headSymbol symbol => s.receiveHeadSymbol symbol
  | .headFrame _ => s.headFrameArrives.discardFrame
  | .fmtFrame _ => s.frameArrives.discardFrame

/-! ### Link loss and link reset -/

/-- What link loss and LINK RESET do alike: an open swath is truncated and its SWATH CLOSE stands alone in the forward
queue, the request and reply queues are emptied, the CRC error count is zeroed, and the notice gate opened (R14, R15,
R35). -/
def State.emptyLink (s : State) : State :=
  let closing := s.truncationFrames
  (((s.truncate.onLink fun l => { l with forward := closing, replies := [], crcErrors := 0 }).onDecoder
    fun d => { d with requests := [] }).onEvents EventUnit.openGate)

/-- The link is lost (R13, R14). R14's effects come in the order it lists them, LINK LOST behind the events of the truncation (log
entry 36). -/
def State.loseLink (s : State) : State :=
  (s.emptyLink.raise .linkLost 0 0#32).onLink fun l => { l with up := false, lossTimer := none, receiver := none }

/-! ### The commands -/

/-- LINK_LOSS (R14): nothing where the timer does not run. -/
def execLinkLoss (s : State) : Answer :=
  .next (whenRunning (fun s => if s.link.up ∧ s.link.lossTimer.isSome then s.loseLink.finish else s) s)

/-- SWATH_OPEN (R19). -/
def execSwathOpen (f : RxFrame) (s : State) : Answer :=
  .next (whenRunning (fun s => (s.receiveFmt .swathOpen f).finish) s)

/-- FIRE (R24). -/
def execFire (f : RxFrame) (s : State) : Answer :=
  .next (whenRunning (fun s => (s.receiveFmt .fire f).sendNext) s)

/-- SWATH_CLOSE (R31). -/
def execSwathClose (f : RxFrame) (s : State) : Answer :=
  .next (whenRunning (fun s => (s.receiveFmt .swathClose f).finish) s)

/-- HEAD_STATUS (R43). -/
def execHeadStatus (f : RxFrame) (s : State) : Answer :=
  .next (whenRunning (fun s => (s.receiveHead .headStatus f).sendNext) s)

/-- PASS_THROUGH_FRAME (R10). -/
def execPassThroughFrame (k : PassKind) (f : RxFrame) (s : State) : Answer :=
  .next (whenRunning (fun s => (s.receiveHead (passFrameKind k) f).sendNext) s)

/-- DISCARDED_FRAME (R5): nothing where a whole frame is not to be discarded (log entry 2); log entry 16 for the symbols of
HEAD IN. -/
def execDiscardedFrame (what : Discarded) (s : State) : Answer :=
  .next (whenRunning (fun s => if discarded what then (s.receiveDiscarded what).sendNext else s) s)

/-- DOWNSTREAM_SEND_END (R9): nothing where no frame is being sent. -/
def execDownstreamSendEnd (s : State) : Answer :=
  .next (whenRunning
    (fun s => if s.link.downTx.isSome then s.onLink fun l => ({ l with downTx := none } : Link).beginDown else s) s)

end Sys2Proof.Machine
end

