-- ==== Sys2Proof/Machine/Presence.lean ====
section
/-! DEFINITION. The presence watches and the hold-off timers: the meanings of LINE_GOES_PRESENT, LINE_GOES_ABSENT, SEATING,
REMOVAL and HOLDOFF_EXPIRY (R73 to R78, R92 to R96, R110). -/

namespace Sys2Proof.Machine

/-- Set a presence line as it reads. -/
def State.setLine (s : State) (n : Slot) (reads : Bool) : State :=
  { s with present := changeAt s.present n fun _ => reads }

/-- A line has gone from absent to present: an arrival in QUIET, the return of a LEAVING watch to what it remembers
(R74, R76). A watch in another state does nothing. -/
def State.linePresent (s : State) (n : Slot) : State :=
  match s.watch n with
  | .quiet => s.arrive n
  | .leaving .arriving _ => s.setWatch n (.arriving (some s.tables.insertSettle))
  | .leaving .seated _ => s.setWatch n .seated
  | _ => s

/-- A line has gone from present to absent: an ARRIVING or SEATED watch becomes LEAVING (R75, R76). -/
def State.lineAbsent (s : State) (n : Slot) : State :=
  match s.watch n with
  | .arriving _ => s.setWatch n (.leaving .arriving (some s.tables.removalSettle))
  | .seated => s.setWatch n (.leaving .seated (some s.tables.removalSettle))
  | _ => s

/-- A slot in IDENTIFYING asks for its IDENTIFY with an allowance and no attempt counted (R93, R110). -/
def State.identify (s : State) (n : Slot) (allowance : Nat) : State :=
  ((s.changeState n .identifying).onSlot n fun r => { r with allowance := allowance, attempts := 0 }).busPlace n .identify

/-- A seating is reported: the watch is SEATED, and a SETTLING slot goes to IDENTIFYING with allowance A_first (R75,
R93). -/
def State.seat (s : State) (n : Slot) : State :=
  let s1 := s.setWatch n .seated
  if (s.slot n).state = .settling then s1.identify n s.tables.aFirst else s1

/-- A removal is reported: the watch is QUIET, the queue is purged, and the cartridge has left (R76, R88, R94). -/
def State.remove (s : State) (n : Slot) : State :=
  ((s.setWatch n .quiet).purge n).leave n

/-- The hold-off timer of a slot in HOLDOFF has expired: it stops, and the slot goes to IDENTIFYING with allowance A_run if
it was ever proven since binding, else A_first (R110). -/
def State.endHoldoff (s : State) (n : Slot) : State :=
  let allowance := if (s.slot n).proven then s.tables.aRun else s.tables.aFirst
  (s.onSlot n fun r => { r with holdoff := none }).identify n allowance

/-- LINE_GOES_PRESENT (R74, R76): the line is a pin, and moves whether or not it is read; nothing where it already reads
present. -/
def execLineGoesPresent (n : Slot) (s : State) : Answer :=
  .next (if s.present[n] then s else whenRunning (fun s => (s.linePresent n).sendNext) (s.setLine n true))

/-- LINE_GOES_ABSENT (R75, R76): as LINE_GOES_PRESENT. -/
def execLineGoesAbsent (n : Slot) (s : State) : Answer :=
  .next (if s.present[n] then whenRunning (fun s => s.lineAbsent n) (s.setLine n false) else s)

/-- SEATING (R75, R93): nothing where the insert settle timer does not run. -/
def execSeating (n : Slot) (s : State) : Answer :=
  .next (whenRunning
    (fun s =>
      match s.watch n with
      | .arriving (some _) => (s.seat n).finish
      | _ => s) s)

/-- REMOVAL (R76, R94): nothing where the removal settle timer does not run. -/
def execRemoval (n : Slot) (s : State) : Answer :=
  .next (whenRunning
    (fun s =>
      match s.watch n with
      | .leaving _ (some _) => (s.remove n).finish
      | _ => s) s)

/-- HOLDOFF_EXPIRY (R110): nothing where the hold-off timer does not run in HOLDOFF. -/
def execHoldoffExpiry (n : Slot) (s : State) : Answer :=
  .next (whenRunning
    (fun s => if (s.slot n).state = .holdoff ∧ (s.slot n).holdoff.isSome then (s.endHoldoff n).finish else s) s)

end Sys2Proof.Machine
end

