-- ==== Sys2Proof/Machine/BusEvents.lean ====
section
/-! DEFINITION. The commands of the supply bus line: the meanings of TRANSACTION_BEGIN, COMMAND_SENT, SUPPLY_REPLY,
RESPONSE_TIMEOUT, BUS_STUCK, FAULT_END, BUS_LINE_RELEASED and BUS_LINE_PULLED_LOW (R72, R81 to R88). -/

namespace Sys2Proof.Machine

/-- The transaction in flight has reached a stage. -/
def State.setStage (s : State) (stage : FlightStage) : State :=
  s.onBus fun b => { b with flight := b.flight.map fun f => { f with stage := stage } }

/-- The transaction in flight whose response time runs (R84). -/
def Bus.awaited (b : Bus) : Option Flight :=
  match b.flight with
  | some f => if f.stage = .awaiting then some f else none
  | none => none

/-- The bus enters FAULT: BUS STUCK is raised, the low stretch has been judged, and the release timer is stopped (R85). -/
def State.enterFault (s : State) : State :=
  (s.onBus fun b => { b with status := .fault, lowTiming := false, releaseTimer := false }).raise .busStuck 0 0#32

/-- The line is stuck: FAULT, and any transaction in flight ends with BUS FAULT (R85); after a TIMEOUT on the same low stretch that
is the one taken since (DEDUCED, log entry 35). BUS STUCK is added before the COMMIT IN DOUBT of a DEBIT that ends so: R85 gives
the two no order (DESIGN CHOICE, log entry 38). -/
def State.stick (s : State) : State :=
  match s.bus.flight with
  | some f => s.enterFault.endTransaction f .busFault
  | none => s.enterFault

/-- The line has gone high: the low stretch is no longer timed, the release timer starts in FAULT, and a command that waits
for the line is sent (R82, R86). -/
def Bus.released (b : Bus) : Bus :=
  { b with
    lowTiming := false
    releaseTimer := if b.status = .fault then true else b.releaseTimer
    flight := b.flight.map fun f => if f.stage = .waiting then { f with stage := .sending } else f }

/-- A chip has pulled the line low: the low stretch is timed, and the release timer stops (R85, R86). -/
def Bus.pulledLow (b : Bus) : Bus :=
  { b with lowTiming := true, releaseTimer := false }

/-- TRANSACTION_BEGIN (R82): nothing where the line is not free or the queue is empty. -/
def execTransactionBegin (s : State) : Answer :=
  .next (whenRunning (fun s => if s.bus.isFree ∧ s.bus.queue ≠ [] then s.finish else s) s)

/-- COMMAND_SENT (R84): the response time starts; nothing where no command is being sent. -/
def execCommandSent (s : State) : Answer :=
  .next (whenRunning
    (fun s =>
      match s.bus.flight with
      | some f => if f.stage = .sending then s.setStage .awaiting else s
      | none => s) s)

/-- SUPPLY_REPLY (R83): the bytes the kind calls for are read, and those beyond are not; nothing where no reply is awaited or
the reply is not complete. -/
def execSupplyReply (bytes : List Byte) (s : State) : Answer :=
  .next (whenRunning
    (fun s =>
      match s.bus.awaited with
      | some f =>
        if f.kind.replyLength ≤ bytes.length then
          (s.endTransaction f (replyOutcome (bytes.take f.kind.replyLength))).finish
        else s
      | none => s) s)

/-- RESPONSE_TIMEOUT (R84): nothing where the response time does not run. A waiting or retried request is taken at once (R81, R87),
also while the line is held low, where its command waits for the release (R82; DEDUCED, log entry 35). -/
def execResponseTimeout (s : State) : Answer :=
  .next (whenRunning
    (fun s =>
      match s.bus.awaited with
      | some f => (s.endTransaction f .timeout).finish
      | none => s) s)

/-- BUS_STUCK (R85): nothing where no low stretch is timed, or the bus is in FAULT already. -/
def execBusStuck (s : State) : Answer :=
  .next (whenRunning
    (fun s =>
      if s.busLow = true ∧ s.bus.lowTiming = true ∧ s.bus.status ≠ .fault then s.stick.endStage1.sendNext else s) s)

/-- FAULT_END (R86): the bus becomes IDLE and the next request is taken; nothing where the release timer does not run. -/
def execFaultEnd (s : State) : Answer :=
  .next (whenRunning
    (fun s =>
      if s.bus.status = .fault ∧ s.bus.releaseTimer = true then
        (s.onBus fun b => { b with status := .idle, releaseTimer := false }).finish
      else s) s)

/-- BUS_LINE_RELEASED (R86): the line is a pin, and moves whether or not it is read; nothing where it is high already. -/
def execBusLineReleased (s : State) : Answer :=
  .next (if s.busLow then whenRunning (fun s => s.onBus Bus.released) { s with busLow := false } else s)

/-- BUS_LINE_PULLED_LOW (R85): as BUS_LINE_RELEASED. -/
def execBusLinePulledLow (s : State) : Answer :=
  .next (if s.busLow then s else whenRunning (fun s => s.onBus Bus.pulledLow) { s with busLow := true })

end Sys2Proof.Machine
end

