-- ==== Sys2Proof/Machine/Requests.lean ====
section
/-! DEFINITION. Taking a request: the front of the request queue, its answer, and the codes of replies (R11, R155, R157). -/

namespace Sys2Proof.Machine

/-- The codes of the reply statuses (R155). -/
def Status.code : Status → Byte
  | .done => 0#8
  | .queued => 1#8
  | .busy => 2#8
  | .locked => 3#8
  | .range => 4#8
  | .state => 5#8
  | .unknown => 6#8
  | .eventsPending => 7#8
  | .writeOnly => 8#8

/-- The status is DONE or QUEUED: the reply carries results (R155). -/
def Status.accepts : Status → Bool
  | .done => true
  | .queued => true
  | _ => false

/-- A refusal: a status and no results; it changes nothing (R155, R157). -/
def refuse (s : State) (status : Status) : State × Reply := (s, ⟨status, []⟩)

/-- DONE with results. -/
def done (s : State) (results : List Byte) : State × Reply := (s, ⟨.done, results⟩)

/-- QUEUED, which no request follows with results (R155). -/
def queued (s : State) : State × Reply := (s, ⟨.queued, []⟩)

/-- The request that would be taken now: the front of the queue, while the reply queue has a free place (R11, R157). -/
def State.frontRequest (s : State) : Option Request :=
  if s.link.replies.length < 4 then s.decoder.requests.head? else none

/-- The request of a code that would be taken now. -/
def State.frontOf (s : State) (code : Byte) : Option Request :=
  s.frontRequest.filter fun r => r.code == code

/-- The EVENTS request of an operation that would be taken now (R155). -/
def State.frontEvents (s : State) (operation : Byte) : Option Request :=
  (s.frontOf 7#8).filter fun r => r.args.head? == some operation

/-- The request at the front leaves the queue (R157). -/
def State.popRequest (s : State) : State :=
  s.onDecoder fun d => { d with requests := d.requests.drop 1 }

/-- A taken request is acted on and answered (R155, R157). -/
def State.takeRequest (s : State) (r : Request) (act : State → List Byte → State × Reply) : State :=
  let (s1, reply) := act s.popRequest r.args
  s1.placeReply r.code r.tag reply.status.code (if reply.status.accepts then reply.results else [])

/-- A request that carries no arguments is judged for form: any argument is answered RANGE (R157). -/
def bare (act : State → State × Reply) (s : State) (args : List Byte) : State × Reply :=
  if args = [] then act s else refuse s .range

/-- A request that carries a slot number alone is judged for form and for the number (R157, R165, R167). -/
def slotArgument (act : State → Slot → State × Reply) (s : State) (args : List Byte) : State × Reply :=
  match args with
  | [b] => if h : b.toNat < 12 then act s ⟨b.toNat, h⟩ else refuse s .range
  | _ => refuse s .range

/-- The codes of tables 1 to 9 (R158). -/
def tableOf (b : Byte) : Option TableId :=
  match b.toNat with
  | 1 => some .drop
  | 2 => some .curve
  | 3 => some .lanes
  | 4 => some .thin
  | 5 => some .policy
  | 6 => some .classes
  | 7 => some .keys
  | 8 => some .sockets
  | 9 => some .settings
  | _ => none

/-- The number of entries of a table (R158). -/
def TableId.entries : TableId → Nat
  | .drop => 12
  | .curve => 8
  | .lanes => 32
  | .thin => 16
  | .policy => 9
  | .classes => 16
  | .keys => 8
  | .sockets => 12
  | .settings => 24

/-- The bytes of one entry in its table's entry form (R155). -/
def TableId.entryBytes : TableId → Nat
  | .drop => 2
  | .curve => 4
  | .lanes => 1
  | .thin => 1
  | .policy => 1
  | .classes => 15
  | .keys => 16
  | .sockets => 2
  | .settings => 4

/-- The table is in the lock set (R164). -/
def Locks.holds (l : Locks) : TableId → Bool
  | .policy => l.policy
  | .classes => l.classes
  | .keys => l.keys
  | .sockets => l.sockets
  | .settings => l.settings
  | _ => false

end Sys2Proof.Machine
end

