-- ==== Sys2Proof/Machine/TableRequests.lean ====
section
/-! DEFINITION. The requests on tables: how LOAD TABLE, READ TABLE and LOCK TABLE act (R69, R78, R96, R153, R158 to
R164). -/

namespace Sys2Proof.Machine

/-! ### The entries of a LOAD TABLE -/

/-- A drop volume entry: 0 to 4,095 (R158). -/
def parseDrop (_ : Nat) (bs : List Byte) : Option Nat :=
  let v := leField bs 0 2
  if v ≤ 4095 then some v else none

/-- A curve entry: T_k −80 to +300, F_k 256 to 2,047 (R49, R158). -/
def parsePoint (_ : Nat) (bs : List Byte) : Option CurvePoint :=
  let t := signed16 (leField bs 0 2)
  let f := leField bs 2 2
  if -80 ≤ t ∧ t ≤ 300 ∧ 256 ≤ f ∧ f ≤ 2047 then some ⟨t, f⟩ else none

/-- A lane map entry: a slot, or FFh for UNUSED (R158). -/
def parseLane (_ : Nat) (bs : List Byte) : Option (Option Slot) :=
  let v := (byteAt bs 0).toNat
  if h : v < 12 then some (some ⟨v, h⟩) else if v = 255 then some none else none

/-- A thinning map entry: a code not above its index's code (R158). -/
def parseThin (index : Nat) (bs : List Byte) : Option (BitVec 2) :=
  let v := (byteAt bs 0).toNat
  if v ≤ index % 4 then some (BitVec.ofNat 2 v) else none

/-- A policy entry (R158). -/
def parseAction (_ : Nat) (bs : List Byte) : Option Action :=
  Action.ofCode (byteAt bs 0).toNat

/-- The genuine class entry that bytes in its entry form hold (R155). -/
def classOfBytes (bs : List Byte) : ClassEntry where
  valid := byteAt bs 0 == 1#8
  code := BitVec.ofNat 16 (leField bs 1 2)
  mask := BitVec.ofNat 16 (leField bs 3 2)
  colours := byteAt bs 5
  keyIndex := Fin.ofNat 8 (byteAt bs 6).toNat
  ceiling := leField bs 7 4
  low := leField bs 11 2
  reserve := leField bs 13 2

/-- A genuine class entry: valid flag 0 or 1, key index 0 to 7, low‰ 0 to 1,000, reserve‰ 0 to low‰; every value of the
other fields is in range (R158). -/
def parseClass (_ : Nat) (bs : List Byte) : Option ClassEntry :=
  if (byteAt bs 0).toNat ≤ 1 ∧ (byteAt bs 6).toNat ≤ 7 ∧ leField bs 11 2 ≤ 1000 ∧ leField bs 13 2 ≤ leField bs 11 2 then
    some (classOfBytes bs)
  else none

/-- A key entry: four words (R158). -/
def parseKey (_ : Nat) (bs : List Byte) : Option Key :=
  some ⟨BitVec.ofNat 32 (leField bs 0 4), BitVec.ofNat 32 (leField bs 4 4), BitVec.ofNat 32 (leField bs 8 4),
    BitVec.ofNat 32 (leField bs 12 4)⟩

/-- A slot configuration entry (R158). -/
def parseSocket (_ : Nat) (bs : List Byte) : Option SocketConfig :=
  if (byteAt bs 0).toNat ≤ 1 then some ⟨byteAt bs 0 == 1#8, byteAt bs 1⟩ else none

/-- A value lies in the range of the setting of an index (R158). -/
def settingInRange (index v : Nat) : Bool :=
  match settingRange[index]? with
  | some r => decide (r.1 ≤ v) && decide (v ≤ r.2)
  | none => false

/-- An integrity setting (R158). -/
def parseSetting (index : Nat) (bs : List Byte) : Option Nat :=
  let v := leField bs 0 4
  if settingInRange index v then some v else none

/-- The entries to be written, of which there are `written` from index `first`: none if any is out of range (R159
step 4). -/
def parseEntries {α : Type} (size first written : Nat) (parse : Nat → List Byte → Option α) (bs : List Byte) :
    Option (List α) :=
  (List.range written).mapM fun j => parse (first + j) ((bs.drop (size * j)).take size)

/-- A table with entries written to successive indices from `first` (R159). -/
def writeFrom {α : Type} {n : Nat} (v : Vector α n) (first : Nat) (xs : List α) : Vector α n :=
  Vector.ofFn fun i => if first ≤ i.val then xs.getD (i.val - first) v[i] else v[i]

/-- The integrity settings agree among themselves: the backlog ceiling is not below the quantum, and the release level is
below the threshold (R159 step 5). -/
def settingsAgree (v : Vector Nat 24) : Bool :=
  decide (v[9] ≤ v[10]) && decide (v[1] < v[0])

/-- No class entry's reserve‰ is above its low‰ (R159 step 5). -/
def classesAgree (v : Vector ClassEntry 16) : Bool :=
  v.all fun c => decide (c.reserve ≤ c.low)

/-! ### Staging -/

/-- A completed load of a staged table acts on its copy: made from the active table where there is none, written, and
OPEN or READY by the final flag (R161). -/
def stageLoad {α : Type} {n : Nat} (copy : Staging (Vector α n)) (active : Vector α n) (first : Nat) (xs : List α)
    (final : Bool) : Staging (Vector α n) :=
  let base := match copy with
    | .none => active
    | .opened c => c
    | .ready c => c
  if final then .ready (writeFrom base first xs) else .opened (writeFrom base first xs)

/-! ### The effects of a direct load -/

/-- The genuine class table is loaded: one slot (R69). -/
def State.classLoaded (first written : Nat) (s : State) (n : Slot) : State :=
  match (s.slot n).binding with
  | some b =>
    if (s.slot n).state.isProven ∧ first ≤ b.classIndex.val ∧ b.classIndex.val < first + written then
      let ceiling := s.tables.classes[b.classIndex].ceiling
      let s1 := s.onSlot n fun r => { r with level := r.level.map fun l => min l ceiling }
      ((s1.followLevel n).recompute n).reEvaluate n
    else s
  | none => s

/-- A slot is disabled: its watch is DISABLED, and a cartridge that has arrived leaves (R78, R96). -/
def State.disableSlot (s : State) (n : Slot) : State :=
  match s.watch n with
  | .arriving _ => ((s.setWatch n .disabled).purge n).leave n
  | .seated => ((s.setWatch n .disabled).purge n).leave n
  | .leaving _ _ => ((s.setWatch n .disabled).purge n).leave n
  | _ => s.setWatch n .disabled

/-- A slot is enabled: its watch is QUIET, and a line that reads present is an arrival (R78, R96). -/
def State.enableSlot (s : State) (n : Slot) : State :=
  let s1 := s.setWatch n .quiet
  if s.present[n] then s1.arrive n else s1

/-- The slot configuration table is loaded: one slot whose enable was `before` (R78). -/
def State.socketLoaded (before : Vector SocketConfig 12) (s : State) (n : Slot) : State :=
  match before[n].enabled, s.tables.sockets[n].enabled with
  | true, false => s.disableSlot n
  | false, true => s.enableSlot n
  | _, _ => s

/-- The integrity settings are loaded: every slot's action is re-evaluated (R37), and every suspect mark tested
(R153). -/
def State.settingsLoaded (s : State) : State :=
  (allSlots.foldl State.reEvaluate s).retestMarks

/-! ### LOAD TABLE -/

/-- The form of a LOAD TABLE of a table: a final flag of 0 or 1, and as many entries as its count says (R155, R157). -/
def loadForm (t : TableId) (args : List Byte) : Bool :=
  decide (4 ≤ args.length) && decide ((byteAt args 2).toNat ≤ 1)
    && decide (args.length = 4 + t.entryBytes * (byteAt args 3).toNat)

/-- The entries of a LOAD TABLE are examined and written, and their effects follow: `none` where one is out of range or
the table would not agree (R159 steps 4 and 5, R160, R161). -/
def State.loadEntries (s : State) (t : TableId) (first written : Nat) (final : Bool) (bs : List Byte) : Option State :=
  match t with
  | .drop =>
    (parseEntries 2 first written parseDrop bs).map fun xs =>
      s.onDecoder fun d => { d with dropCopy := stageLoad d.dropCopy s.tables.drop first xs final }
  | .curve =>
    (parseEntries 4 first written parsePoint bs).map fun xs =>
      s.onDecoder fun d => { d with curveCopy := stageLoad d.curveCopy s.tables.curve first xs final }
  | .lanes =>
    (parseEntries 1 first written parseLane bs).map fun xs =>
      s.onDecoder fun d => { d with laneCopy := stageLoad d.laneCopy s.tables.lanes first xs final }
  | .thin =>
    (parseEntries 1 first written parseThin bs).map fun xs =>
      s.onDecoder fun d => { d with thinCopy := stageLoad d.thinCopy s.tables.thin first xs final }
  | .policy =>
    (parseEntries 1 first written parseAction bs).map fun xs =>
      s.onDecoder fun d => { d with policyCopy := stageLoad d.policyCopy s.tables.policy first xs final }
  | .classes =>
    (parseEntries 15 first written parseClass bs).bind fun xs =>
      let v := writeFrom s.tables.classes first xs
      if classesAgree v then
        some (allSlots.foldl (State.classLoaded first written) (s.onTables fun t => { t with classes := v }))
      else none
  | .keys =>
    (parseEntries 16 first written parseKey bs).map fun xs =>
      s.onTables fun t => { t with keys := writeFrom t.keys first xs }
  | .sockets =>
    (parseEntries 2 first written parseSocket bs).map fun xs =>
      allSlots.foldl (State.socketLoaded s.tables.sockets)
        (s.onTables fun t => { t with sockets := writeFrom t.sockets first xs })
  | .settings =>
    (parseEntries 4 first written parseSetting bs).bind fun xs =>
      let v := writeFrom s.tables.settings first xs
      if settingsAgree v then some (s.onTables fun t => { t with settings := v }).settingsLoaded else none

/-- The number of entries a LOAD TABLE would write: those supplied, up to the last index of the table (R159 step 4). -/
def entriesWritten (t : TableId) (first count : Nat) : Nat :=
  min count (t.entries - first)

/-- LOAD TABLE is judged in the order of R159, and written (R157, R159 to R161). -/
def State.loadTable (s : State) (args : List Byte) : State × Reply :=
  match args with
  | [] => refuse s .range
  | b :: _ =>
    match tableOf b with
    | none => refuse s .unknown
    | some t =>
      let first := (byteAt args 1).toNat
      let written := entriesWritten t first (byteAt args 3).toNat
      if !loadForm t args then refuse s .range
      else if s.tables.locks.holds t then refuse s .locked
      else if t.entries ≤ first then refuse s .range
      else
        match s.loadEntries t first written (byteAt args 2 == 1#8) (args.drop 4) with
        | some s1 => done s1 [BitVec.ofNat 8 written]
        | none => refuse s .range

/-! ### READ TABLE -/

/-- A temperature as a two's-complement count of 2 bytes. -/
def temperatureBytes (t : Int) : List Byte := leBytes 2 (BitVec.ofInt 16 t).toNat

/-- A lane map entry as sent (R155, R158). -/
def laneByte (n : Option Slot) : Byte :=
  match n with
  | some n => BitVec.ofNat 8 n.val
  | none => 0xFF#8

/-- The active table's entries as sent; the key table is never sent (R155, R163). -/
def Tables.sent (t : Tables) : TableId → List (List Byte)
  | .drop => t.drop.toList.map fun v => leBytes 2 v
  | .curve => t.curve.toList.map fun p => temperatureBytes p.temperature ++ leBytes 2 p.factor
  | .lanes => t.lanes.toList.map fun n => [laneByte n]
  | .thin => t.thin.toList.map fun c => [c.setWidth 8]
  | .policy => t.policy.toList.map actionForm
  | .classes => t.classes.toList.map ClassEntry.bytes
  | .keys => []
  | .sockets => t.sockets.toList.map SocketConfig.bytes
  | .settings => t.settings.toList.map settingForm

/-- The code of a staging status (R155). -/
def Staging.code {α : Type} : Staging α → Byte
  | .none => 0#8
  | .opened _ => 1#8
  | .ready _ => 2#8

/-- The staging status that READ TABLE reports: NONE for a direct table (R163). -/
def Decoder.stagingCode (d : Decoder) : TableId → Byte
  | .drop => d.dropCopy.code
  | .curve => d.curveCopy.code
  | .lanes => d.laneCopy.code
  | .thin => d.thinCopy.code
  | .policy => d.policyCopy.code
  | _ => 0#8

/-- READ TABLE (R163). -/
def State.readTable (s : State) (args : List Byte) : State × Reply :=
  match args with
  | [b, first, count] =>
    match tableOf b with
    | none => refuse s .unknown
    | some t =>
      if t = .keys then refuse s .writeOnly
      else if count.toNat = 0 ∨ 32 < count.toNat ∨ t.entries ≤ first.toNat then refuse s .range
      else
        let entries := ((s.tables.sent t).drop first.toNat).take count.toNat
        done s
          (BitVec.ofNat 8 entries.length :: flagByte (s.tables.locks.holds t) :: s.decoder.stagingCode t ::
            entries.flatten)
  | _ => refuse s .range

/-! ### LOCK TABLE -/

/-- The lock set with a table added, for the tables that can be locked (R164). -/
def Locks.add (l : Locks) : TableId → Option Locks
  | .policy => some { l with policy := true }
  | .classes => some { l with classes := true }
  | .keys => some { l with keys := true }
  | .sockets => some { l with sockets := true }
  | .settings => some { l with settings := true }
  | _ => none

/-- A table is added to the lock set; locking the policy table discards its staging copy (R164). -/
def State.addLock (s : State) (t : TableId) (locks : Locks) : State :=
  let s1 := s.onTables fun x => { x with locks := locks }
  if t = .policy then s1.onDecoder fun d => { d with policyCopy := .none } else s1

/-- LOCK TABLE (R164). -/
def State.lockTable (s : State) (args : List Byte) : State × Reply :=
  match args with
  | [b] =>
    match tableOf b with
    | none => refuse s .unknown
    | some t =>
      match s.tables.locks.add t with
      | none => refuse s .range
      | some locks => if s.tables.locks.holds t then done s [] else done (s.addLock t locks) []
  | _ => refuse s .range

end Sys2Proof.Machine
end

