-- ==== Sys2Proof/Machine/Queries.lean ====
section
/-! DEFINITION. The query requests: how QUERY SLOT, QUERY KNOWN and QUERY STATUS act (R71, R154, R155, R165,
R166). -/

namespace Sys2Proof.Machine

/-- The codes of the slot states (R155). -/
def SlotState.code : SlotState → Byte
  | .empty => 0#8
  | .settling => 1#8
  | .identifying => 2#8
  | .authenticating => 3#8
  | .holdoff => 4#8
  | .genuine => 5#8
  | .suspect => 6#8
  | .foreign => 7#8
  | .misplaced => 8#8
  | .reused => 9#8

/-- The codes of the bands (R155). -/
def Band.code : Band → Byte
  | .none => 0#8
  | .normal => 1#8
  | .low => 2#8
  | .reserve => 3#8
  | .out => 4#8

/-- The codes of the commit phases (R155). -/
def CommitPhase.code : CommitPhase → Byte
  | .idle => 0#8
  | .waiting => 1#8
  | .inFlight .. => 2#8
  | .inDoubt .. => 3#8

/-- The amount D that QUERY SLOT reports: 0 outside IN FLIGHT and IN DOUBT (R155). -/
def CommitPhase.amountSent : CommitPhase → Nat
  | .inFlight d .. => d
  | .inDoubt d _ => d
  | _ => 0

/-- The binding as QUERY SLOT reports it (R155, R165). -/
def bindingBytes (b : Option Binding) : List Byte :=
  match b with
  | some b =>
    1#8 :: (leBytes 4 b.identity.serial.toNat ++ leBytes 2 b.identity.product.toNat
      ++ [b.identity.colours, b.identity.generation] ++ leBytes 4 b.identity.capacity
      ++ [BitVec.ofNat 8 b.classIndex.val])
  | none => List.replicate 14 0#8

/-- A slot's record as QUERY SLOT reports it (R155, R165). -/
def State.slotBytes (s : State) (n : Slot) : List Byte :=
  let r := s.slot n
  let c := s.commit n
  r.state.code :: (bindingBytes r.binding
    ++ [BitVec.ofNat 8 r.allowance, BitVec.ofNat 8 r.attempts, BitVec.ofNat 8 r.round]
    ++ presentField r.level ++ leBytes 4 r.pendingDebit ++ presentField r.estimate
    ++ [r.band.code, c.phase.code] ++ leBytes 4 c.phase.amountSent
    ++ [BitVec.ofNat 8 s.swath.latched[n].code])

/-- QUERY SLOT (R165). -/
def State.querySlot (s : State) (n : Slot) : State × Reply := done s (s.slotBytes n)

/-- An entry of the list at a position as QUERY KNOWN reports it (R154, R155). -/
def Entry.bytes (position : Nat) (e : Entry) : List Byte :=
  BitVec.ofNat 8 position :: e.form

/-- The entries returned by QUERY KNOWN, each with its position (R165). -/
def knownFrom (l : List Entry) (first count : Nat) : List (Nat × Entry) :=
  (((List.range l.length).zip l).drop first).take count

/-- QUERY KNOWN (R165). -/
def State.queryKnown (s : State) (args : List Byte) : State × Reply :=
  match args with
  | [first, count] =>
    if count.toNat = 0 ∨ 8 < count.toNat then refuse s .range
    else
      let entries := knownFrom s.known first.toNat count.toNat
      done s
        (BitVec.ofNat 8 s.known.length :: BitVec.ofNat 8 entries.length ::
          entries.flatMap fun e => Entry.bytes e.1 e.2)
  | _ => refuse s .range

/-- The codes of the park states (R155). -/
def Park.code : Park → Byte
  | .active => 0#8
  | .parking _ => 1#8
  | .parked => 2#8

/-- The codes of the bus states (R155). -/
def BusStatus.code : BusStatus → Byte
  | .idle => 0#8
  | .busy => 1#8
  | .fault => 2#8

/-- QUERY STATUS (R166). -/
def State.queryStatus (s : State) : State × Reply :=
  done s
    (s.decoder.park.code :: flagByte s.store.save.isSome :: (leBytes 2 s.store.writeCount ++ [s.bus.status.code]
      ++ leBytes 2 s.link.crcErrors ++ [BitVec.ofNat 8 s.events.pending.length, flagByte s.events.noticesOn]))

end Sys2Proof.Machine
end

