-- ==== Sys2Proof/Machine/EventRequests.lean ====
section
/-! DEFINITION. The EVENTS request and the notice hold-off: how the operations READ, CLEAR, ENABLE, NOTICES ON and NOTICES OFF
act, and the meaning of NOTICE_HOLDOFF_EXPIRY (R155, R168 to R174). -/

namespace Sys2Proof.Machine

/-- A pending event as EVENTS READ reports it: kind, index, detail (R155, R168). -/
def Event.bytes (e : Event) : List Byte :=
  BitVec.ofNat 8 e.kind.code :: BitVec.ofNat 8 e.index :: leBytes 4 e.detail.toNat

/-- An EVENTS operation that carries nothing more than its code (R155). -/
def bareOperation (act : State → State × Reply) (s : State) (args : List Byte) : State × Reply :=
  if args.length = 1 then act s else refuse s .range

/-- EVENTS READ (R171). -/
def State.eventsRead (s : State) : State × Reply :=
  let records := s.events.pending.take 32
  done s (BitVec.ofNat 8 s.events.pending.length :: BitVec.ofNat 8 records.length :: records.flatMap Event.bytes)

/-- The event names of a CLEAR: `none` if a pair names no event (R168, R171). -/
def eventNames (count : Nat) (bs : List Byte) : Option (List (EventKind × Nat)) :=
  (List.range count).mapM fun j => eventName (byteAt bs (2 * j)).toNat (byteAt bs (2 * j + 1)).toNat

/-- A CLEAR answered DONE: the events are removed, counted, and the notice hold-off started (R171, R173). -/
def State.cleared (s : State) (clear : EventUnit → EventUnit) : State × Reply :=
  done (s.onEvents fun u => (clear u).startHoldoff s.tables.noticeHoldoff)
    [BitVec.ofNat 8 (s.events.pending.length - (clear s.events).pending.length)]

/-- EVENTS CLEAR, of all events or of the names listed (R155, R171). -/
def State.eventsClear (s : State) (args : List Byte) : State × Reply :=
  match args with
  | [_, all] => if all = 1#8 then s.cleared EventUnit.clearAll else refuse s .range
  | _ :: all :: count :: names =>
    if all = 0#8 ∧ count.toNat ≤ 32 ∧ names.length = 2 * count.toNat then
      match eventNames count.toNat names with
      | some list => s.cleared (EventUnit.clearNames list)
      | none => refuse s .range
    else refuse s .range
  | _ => refuse s .range

/-- EVENTS ENABLE (R155, R170). -/
def State.eventsEnable (s : State) (args : List Byte) : State × Reply :=
  match args with
  | _ :: count :: codes =>
    if codes.length = count.toNat then
      match codes.mapM fun c => EventKind.ofCode c.toNat with
      | some kinds => done (s.onEvents (EventUnit.enable kinds)) []
      | none => refuse s .range
    else refuse s .range
  | _ => refuse s .range

/-- NOTICES ON (R174). -/
def State.noticesOn (s : State) : State × Reply := done (s.onEvents EventUnit.turnOn) []

/-- NOTICES OFF (R174). -/
def State.noticesOff (s : State) : State × Reply := done (s.onEvents EventUnit.turnOff) []

/-- NOTICE_HOLDOFF_EXPIRY (R173): nothing where the timer does not run. -/
def execNoticeHoldoffExpiry (s : State) : Answer :=
  .next (whenRunning
    (fun s => if s.events.holdoff.isSome then (s.onEvents EventUnit.openGate).sendNext else s) s)

end Sys2Proof.Machine
end

