-- ==== Sys2Proof/Machine/SlotRequests.lean ====
section
/-! DEFINITION. The slot actions, LINK RESET and unknown requests: how REAUTHENTICATE SLOT, COMMIT SLOT and LINK RESET act, and
the answer to a request that no rule acts on (R15, R157, R167). -/

namespace Sys2Proof.Machine

/-- REAUTHENTICATE SLOT (R106, R167). -/
def State.reauthenticate (s : State) (n : Slot) : State × Reply :=
  if (s.slot n).state.isProven then queued (s.askChallenge n) else refuse s .state

/-- COMMIT SLOT (R118, R120, R167). -/
def State.commitSlot (s : State) (n : Slot) : State × Reply :=
  if (s.slot n).state.isProven then queued (s.askCommit .request n) else refuse s .state

/-- LINK RESET (R15): its reply, placed when this is done, is the first in the emptied reply queue. -/
def State.linkReset (s : State) : State × Reply := done s.emptyLink []

/-- A request that no rule acts on: its code is 0 or above 13; or it is an EVENTS request whose operation is missing or above 4
(R155, R157; log entry 7). -/
def Request.isUnknown (r : Request) : Bool :=
  r.code == 0#8 || decide (13 < r.code.toNat)
    || (r.code == 7#8 && (r.args.isEmpty || decide (4 < (byteAt r.args 0).toNat)))

/-- The request that no rule acts on and that would be taken now. -/
def State.frontUnknown (s : State) : Option Request :=
  s.frontRequest.filter Request.isUnknown

/-- The refusal of a request that no rule acts on: UNKNOWN, or RANGE for an EVENTS request (R155, R157). -/
def Request.unknownStatus (r : Request) : Status :=
  if r.code = 7#8 then .range else .unknown

end Sys2Proof.Machine
end

