-- ==== Sys2Proof/Machine/Parking.lean ====
section
/-! DEFINITION. Parking and the saves of the store: how PARK, RESUME and SAVE STORE act, and the meanings of PARKING_COPIES,
SECTION_WRITTEN and SAVE_COMPLETE (R131, R175 to R180). -/

namespace Sys2Proof.Machine

/-- REFILL WARNING or COMMIT IN DOUBT is pending for any slot (R175). -/
def EventUnit.holdsParking (u : EventUnit) : Bool :=
  u.pending.any fun e => e.kind == .refillWarning || e.kind == .commitInDoubt

/-- The parking sequence begins: PARKING, and a commit is asked for every slot (R131, R176 stage 1). -/
def State.beginParking (s : State) : State :=
  allSlots.foldl (State.askCommit · .request ·) (s.setPark (.parking .commits))

/-- PARK, by the first line of R175's table that applies. -/
def State.park (s : State) : State × Reply :=
  if s.swathIsOpen then refuse s .busy
  else if s.events.holdsParking then refuse s .eventsPending
  else
    match s.decoder.park with
    | .parked => done s []
    | .parking _ => queued s
    | .active => queued s.beginParking

/-- A CHALLENGE is asked for a GENUINE or SUSPECT slot (R178). -/
def State.challengeProven (s : State) (n : Slot) : State :=
  if (s.slot n).state.isProven then s.askChallenge n else s

/-- RESUME, by the park state (R178). -/
def State.resume (s : State) : State × Reply :=
  match s.decoder.park with
  | .active => refuse s .state
  | .parking _ => done (s.setPark .active) []
  | .parked => done (allSlots.foldl State.challengeProven (s.setPark .active)) []

/-- SAVE STORE (R180). -/
def State.saveStore (s : State) : State × Reply :=
  if s.store.save.isSome then refuse s .busy else queued s.startSave

/-- The CONFIG or KEYS section of the running save is written, and the next is begun (R180). -/
def Store.sectionWritten (t : Store) : Store :=
  match t.save with
  | some v =>
    match v.writing with
    | .config => { t with config := .holding v.config.bytes, save := some { v with writing := .keys } }
    | .keys => { t with keys := .holding (keysBytes v.keys), save := some { v with writing := .known } }
    | .known => t
  | none => t

/-- The KNOWN section is written, the write count takes the value written, and the save runs no longer (R180). -/
def Store.saveCompleted (t : Store) (v : Save) : Store :=
  { t with known := .holding v.known.bytes, writeCount := v.known.writeCount, save := none }

/-- What the completion of a save does to the parking (R176, R178): the parking save makes the part PARKED; stage 3 starts
where it waited for the save. -/
def State.parkOnSave (s : State) : State :=
  match s.decoder.park with
  | .parking .saving => (s.setPark .parked).raise .parked 0 0#32
  | .parking .waitingSave => s.startSave.setPark (.parking .saving)
  | _ => s

/-- PARKING_COPIES (R176): nothing but in stage 1 of parking with the commits done. -/
def execParkingCopies (s : State) : Answer :=
  .next (whenRunning (fun s => s.endStage1) s)

/-- SECTION_WRITTEN (R180): nothing where neither CONFIG nor KEYS is being written. -/
def execSectionWritten (s : State) : Answer :=
  .next (whenRunning (fun s => s.onStore Store.sectionWritten) s)

/-- SAVE_COMPLETE (R180): nothing where KNOWN is not being written. -/
def execSaveComplete (s : State) : Answer :=
  .next (whenRunning
    (fun s =>
      match s.store.save with
      | some v =>
        if v.writing = .known then ((s.onStore fun t => t.saveCompleted v).parkOnSave).sendNext else s
      | none => s) s)

end Sys2Proof.Machine
end

