-- ==== Sys2Proof/Machine/Taking.lean ====
section
/-! DEFINITION. The taking of requests: the request at the front of the request queue is acted on and answered, and the next is
considered, until the queue is empty or the reply queue full (R11, R157). -/

namespace Sys2Proof.Machine

/-- An EVENTS request is acted on by its operation; one whose operation is missing or above 4 is answered RANGE (R155, R157). -/
def State.actOnEvents (s : State) (args : List Byte) : State × Reply :=
  match args.head? with
  | none => refuse s .range
  | some operation =>
    match operation.toNat with
    | 0 => bareOperation State.eventsRead s args
    | 1 => s.eventsClear args
    | 2 => s.eventsEnable args
    | 3 => bareOperation State.noticesOn s args
    | 4 => bareOperation State.noticesOff s args
    | _ => refuse s .range

/-- A request is acted on by its code; a code of 0 or above 13 is answered UNKNOWN (R155, R157). -/
def State.actOn (code : Byte) (s : State) (args : List Byte) : State × Reply :=
  match code.toNat with
  | 1 => s.loadTable args
  | 2 => s.readTable args
  | 3 => s.lockTable args
  | 4 => slotArgument State.querySlot s args
  | 5 => s.queryKnown args
  | 6 => bare State.queryStatus s args
  | 7 => s.actOnEvents args
  | 8 => slotArgument State.reauthenticate s args
  | 9 => slotArgument State.commitSlot s args
  | 10 => bare State.park s args
  | 11 => bare State.resume s args
  | 12 => bare State.saveStore s args
  | 13 => bare State.linkReset s args
  | _ => refuse s .unknown

/-- The request at the front is taken, if the reply queue has a free place, and its event ends (R157). -/
def State.serveOne (s : State) : State :=
  match s.frontRequest with
  | some r => (s.takeRequest r (State.actOn r.code)).finish
  | none => s

/-- At most so many requests are taken, one after the other. -/
def State.serveUpTo : Nat → State → State
  | 0, s => s
  | k + 1, s => s.serveOne.serveUpTo k

/-- The Request Decoder considers its queue: requests are taken until it is empty or the reply queue is full (R157). Each taking
shortens the queue, whose length bounds them. -/
def State.serve (s : State) : State :=
  s.serveUpTo s.decoder.requests.length

/-- A request that would be taken now is taken and acted on, its event ends, and the queue is considered again (R157); nothing
where there is none. -/
def State.take (s : State) (front : Option Request) (act : State → List Byte → State × Reply) : State :=
  match front with
  | some r => (s.takeRequest r act).finish.serve
  | none => s

end Sys2Proof.Machine
end

