-- ==== Sys2Proof/Machine/RequestCommands.lean ====
section
/-! DEFINITION. The commands that take requests: the row of each request, and the three commands that place a request in the
request queue or let a REPLY leave the reply queue, LINK_SYMBOL, REQUEST_FRAME and UPSTREAM_SEND_END (R6, R12, R13, R155 to
R157; log entry 5). -/

namespace Sys2Proof.Machine

/-! ### The link's commands -/

/-- LINK_SYMBOL (R1, R13): its symbol may complete a REQUEST frame. -/
def execLinkSymbol (symbol : Symbol) (s : State) : Answer :=
  .next (whenRunning (fun s => (s.symbolArrives.receiveSymbol symbol).finish.serve) s)

/-- REQUEST_FRAME (R6, R157). -/
def execRequestFrame (f : RxFrame) (s : State) : Answer :=
  .next (whenRunning (fun s => (s.receiveFmt .request f).sendNext.serve) s)

/-- UPSTREAM_SEND_END (R12, R157): nothing where no frame is being sent (log entry 2). -/
def execUpstreamSendEnd (s : State) : Answer :=
  .next (whenRunning
    (fun s => if s.link.upTx.isSome then (s.onLink fun l => { l with upTx := none }).beginUp.serve else s) s)

/-! ### The rows of the requests: nothing where no request of the row would be taken now (log entry 2) -/

/-- LOAD_TABLE (R159). -/
def execLoadTable (s : State) : Answer :=
  .next (whenRunning (fun s => s.take (s.frontOf 1#8) State.loadTable) s)

/-- READ_TABLE (R163). -/
def execReadTable (s : State) : Answer :=
  .next (whenRunning (fun s => s.take (s.frontOf 2#8) State.readTable) s)

/-- LOCK_TABLE (R164). -/
def execLockTable (s : State) : Answer :=
  .next (whenRunning (fun s => s.take (s.frontOf 3#8) State.lockTable) s)

/-- QUERY_SLOT (R165). -/
def execQuerySlot (s : State) : Answer :=
  .next (whenRunning (fun s => s.take (s.frontOf 4#8) (slotArgument State.querySlot)) s)

/-- QUERY_KNOWN (R165). -/
def execQueryKnown (s : State) : Answer :=
  .next (whenRunning (fun s => s.take (s.frontOf 5#8) State.queryKnown) s)

/-- QUERY_STATUS (R166). -/
def execQueryStatus (s : State) : Answer :=
  .next (whenRunning (fun s => s.take (s.frontOf 6#8) (bare State.queryStatus)) s)

/-- EVENTS_READ (R171). -/
def execEventsRead (s : State) : Answer :=
  .next (whenRunning (fun s => s.take (s.frontEvents 0#8) (bareOperation State.eventsRead)) s)

/-- EVENTS_CLEAR (R171). -/
def execEventsClear (s : State) : Answer :=
  .next (whenRunning (fun s => s.take (s.frontEvents 1#8) State.eventsClear) s)

/-- EVENTS_ENABLE (R170). -/
def execEventsEnable (s : State) : Answer :=
  .next (whenRunning (fun s => s.take (s.frontEvents 2#8) State.eventsEnable) s)

/-- NOTICES_ON (R174). -/
def execNoticesOn (s : State) : Answer :=
  .next (whenRunning (fun s => s.take (s.frontEvents 3#8) (bareOperation State.noticesOn)) s)

/-- NOTICES_OFF (R174). -/
def execNoticesOff (s : State) : Answer :=
  .next (whenRunning (fun s => s.take (s.frontEvents 4#8) (bareOperation State.noticesOff)) s)

/-- REAUTHENTICATE_SLOT (R167). -/
def execReauthenticateSlot (s : State) : Answer :=
  .next (whenRunning (fun s => s.take (s.frontOf 8#8) (slotArgument State.reauthenticate)) s)

/-- COMMIT_SLOT (R167). -/
def execCommitSlot (s : State) : Answer :=
  .next (whenRunning (fun s => s.take (s.frontOf 9#8) (slotArgument State.commitSlot)) s)

/-- PARK (R175). -/
def execPark (s : State) : Answer :=
  .next (whenRunning (fun s => s.take (s.frontOf 10#8) (bare State.park)) s)

/-- RESUME (R178). -/
def execResume (s : State) : Answer :=
  .next (whenRunning (fun s => s.take (s.frontOf 11#8) (bare State.resume)) s)

/-- SAVE_STORE (R180). -/
def execSaveStore (s : State) : Answer :=
  .next (whenRunning (fun s => s.take (s.frontOf 12#8) (bare State.saveStore)) s)

/-- LINK_RESET (R15). -/
def execLinkReset (s : State) : Answer :=
  .next (whenRunning (fun s => s.take (s.frontOf 13#8) (bare State.linkReset)) s)

/-- UNKNOWN_REQUEST (R157; log entry 7). -/
def execUnknownRequest (s : State) : Answer :=
  .next (whenRunning
    (fun s =>
      match s.frontUnknown with
      | some r => s.take (some r) fun s _ => refuse s r.unknownStatus
      | none => s) s)

end Sys2Proof.Machine
end

