-- ==== Sys2Proof/Config.lean ====
section
/-! DEFINITION. The free values: what the manual leaves open and the part goes on from. No body, so that nothing
can be proved of them.

R180 says that a section whose writing a reset stops "is left with a CRC that does not match"; it does not say what its bytes
and its CRC then are (log entry 11). The argument is the number of saves stopped before. -/

namespace Sys2Proof.Config

open Sys2Proof.Machine

/-- The bytes of a torn section (R180). -/
opaque tornBytes : Nat → List Byte

/-- One less than what the CRC of a torn section differs by from the one that matches: it does not match (R180). -/
opaque tornDifference : Nat → Fin 65535

end Sys2Proof.Config
end

