-- ==== Sys2Proof/Machine/Sections.lean ====
section
/-! DEFINITION. Reading the store's sections: the contents that a section's bytes hold, the judgement of its CRC, and the one bit
that may be changed (R179, R181). -/

namespace Sys2Proof.Machine

/-! ### Contents -/

/-- A flag of the lock set: 0 or 1. -/
def parseFlag (_ : Nat) (bs : List Byte) : Option Bool :=
  if (byteAt bs 0).toNat ≤ 1 then some (byteAt bs 0 == 1#8) else none

/-- All the entries of a table, in its entry form, from an offset: `none` where one is out of range (R158, R181). -/
def parseTable {α : Type} {n : Nat} (base : Vector α n) (size offset : Nat) (parse : Nat → List Byte → Option α)
    (bs : List Byte) : Option (Vector α n) :=
  (parseEntries size 0 n parse (bs.drop offset)).map (writeFrom base 0)

/-- The lock set that five flags make (R179). -/
def lockSet (v : Vector Bool 5) : Locks := ⟨v[0], v[1], v[2], v[3], v[4]⟩

/-- The contents of CONFIG: `none` where a value lies outside the range its table allows (R158, R179, R181). -/
def parseConfig (bs : List Byte) : Option ConfigImage :=
  if bs.length = 374 then
    match parseTable defaultPolicy 1 0 parseAction bs, parseTable defaultClasses 15 9 parseClass bs,
      parseTable defaultSockets 2 249 parseSocket bs, parseTable defaultSettings 4 273 parseSetting bs,
      parseTable (Vector.replicate 5 false) 1 369 parseFlag bs with
    | some policy, some classes, some sockets, some settings, some locks =>
      if settingsAgree settings then some ⟨policy, classes, sockets, settings, lockSet locks⟩ else none
    | _, _, _, _, _ => none
  else none

/-- The contents of KEYS; a key word has no value out of range (R158, R179). -/
def parseKeys (bs : List Byte) : Option (Vector Key 8) :=
  if bs.length = 128 then parseTable defaultKeys 16 0 parseKey bs else none

/-- A field of 4 bytes after its presence byte (R155). -/
def parsePresent (bs : List Byte) : Option Nat :=
  if byteAt bs 0 = 1#8 then some (leField bs 1 4) else none

/-- The residence that a byte names (R155). -/
def parseResidence (b : Byte) : Option Slot :=
  if h : b.toNat < 12 then some ⟨b.toNat, h⟩ else none

/-- An entry of the list, in the form of 28 bytes: `none` where a presence byte, the flags or the residence is out of range
(R134, R155, R181). -/
def parseEntry (_ : Nat) (bs : List Byte) : Option Entry :=
  if (byteAt bs 7).toNat ≤ 1 ∧ (byteAt bs 16).toNat ≤ 1 ∧ (byteAt bs 26).toNat ≤ 3
      ∧ ((byteAt bs 27).toNat < 12 ∨ byteAt bs 27 = 0xFF#8) then
    some
      { serial := BitVec.ofNat 32 (leField bs 0 4)
        product := BitVec.ofNat 16 (leField bs 4 2)
        generation := byteAt bs 6
        lastLevel := parsePresent (bs.drop 7)
        unsettled := leField bs 12 4
        inDoubt := if byteAt bs 16 = 1#8 then some ⟨leField bs 17 4, leField bs 21 4⟩ else none
        count := (byteAt bs 25).toNat
        exhausted := (byteAt bs 26).getLsbD 0
        suspect := (byteAt bs 26).getLsbD 1
        residence := parseResidence (byteAt bs 27)
        carried := none
        refurbished := false }
  else none

/-- The contents of KNOWN: `none` where a value is out of range, and where the list is not one that R133 allows, with more than
48 entries or with two of the same serial (R134, R179, R181; DEDUCED, log entry 23). -/
def parseKnown (bs : List Byte) : Option KnownImage :=
  let count := (byteAt bs 0).toNat
  if count ≤ listCapacity ∧ bs.length = 7 + 28 * count then
    match parseEntries 28 0 count parseEntry (bs.drop 1) with
    | some entries =>
      if (entries.map Entry.serial).Nodup then
        some ⟨entries, BitVec.ofNat 32 (leField bs (1 + 28 * count) 4), leField bs (5 + 28 * count) 2⟩
      else none
    | none => none
  else none

/-! ### Judging a section -/

/-- Bytes with one bit changed. -/
def flipBit (bs : List Byte) (i : Nat) : List Byte :=
  bs.modify (i / 8) fun b => b ^^^ (1#8 <<< (i % 8))

/-- The section's CRC matches its contents (R179, R181). -/
def Section.matches (t : Section) : Bool := crc16 t.bytes == t.crc

/-- The bytes of a section whose CRC does not match, with the one bit changed that makes it match, be it of the contents or of
the CRC: `none` where there is no such bit (R181). -/
def Section.mended (t : Section) : Option (List Byte) :=
  match (List.range (8 * t.bytes.length)).find? fun i => crc16 (flipBit t.bytes i) == t.crc with
  | some i => some (flipBit t.bytes i)
  | none =>
    if (List.range 16).any fun i => crc16 t.bytes == t.crc ^^^ (1#16 <<< i) then some t.bytes else none

/-- What the judgement of a section gives: its contents loaded, its corrected contents loaded, or nothing (R181). -/
inductive Verdict (α : Type) where
  | loaded (contents : α)
  | corrected (contents : α)
  | lost
  deriving DecidableEq, Repr

/-- A section is judged, given how its contents are read (R181). -/
def Section.judge {α : Type} (parse : List Byte → Option α) (t : Section) : Verdict α :=
  if t.matches then
    match parse t.bytes with
    | some c => .loaded c
    | none => .lost
  else
    match t.mended.bind parse with
    | some c => .corrected c
    | none => .lost

/-- The contents that a section loads, or its defaults where it is lost (R181). -/
def Verdict.contents {α : Type} (v : Verdict α) (defaults : α) : α :=
  match v with
  | .loaded c => c
  | .corrected c => c
  | .lost => defaults

/-- A section whose writing is stopped: its CRC does not match; its bytes, and by how much its CRC is wrong, are free (R180; log
entry 11). -/
def Section.torn (k : Nat) : Section :=
  ⟨Config.tornBytes k, crc16 (Config.tornBytes k) ^^^ BitVec.ofNat 16 ((Config.tornDifference k).val + 1)⟩

end Sys2Proof.Machine
end

