-- ==== Sys2Proof/Machine/StartUp.lean ====
section
/-! DEFINITION. Reset and start-up: the meanings of RESET, RESET_RELEASE and START_UP (R16, R17, R36, R42, R73, R89, R102, R180
to R182). -/

namespace Sys2Proof.Machine

/-! ### Reset -/

/-- A presence watch whose settle timer has stopped: it stays in its state until start-up sets it (R73, R181; log entry 14). -/
def Watch.stopped : Watch → Watch
  | .arriving _ => .arriving none
  | .leaving before _ => .leaving before none
  | w => w

/-- A reset stops the running save (R180): the sections written hold the new snapshot, the section being written is torn, and
the others hold their earlier contents. -/
def Store.stopSave (t : Store) : Store :=
  match t.save with
  | none => t
  | some v =>
    let t1 := { t with save := none, tears := t.tears + 1 }
    match v.writing with
    | .config => { t1 with config := .torn t.tears }
    | .keys => { t1 with keys := .torn t.tears }
    | .known => { t1 with known := .torn t.tears }

/-- RESET is asserted (R16, R36, R89, R180, R181): the transmitters stop, the frames being received, the open swath and the
transactions of the supply bus are abandoned, the timers stop, and a running save is stopped. The other blocks stay as
they are until start-up completes (log entry 14). -/
def State.assertReset (cause : ResetCause) (s : State) : State :=
  { s with
    run := .asserted
    cause := cause
    link :=
      { s.link with
        receiver := none
        headReceiver := none
        up := false
        lossTimer := none
        downTx := none
        upTx := none }
    swath := { s.swath with descriptor := none }
    heads := s.heads.map fun h => { h with staleTimer := none }
    slots := s.slots.map fun r => { r with holdoff := none }
    bus :=
      { queue := []
        flight := none
        status := .idle
        lowTiming := false
        releaseTimer := false
        watches := s.bus.watches.map Watch.stopped }
    events := { s.events with holdoff := none }
    store := s.store.stopSave }

/-! ### Loading -/

/-- CONFIG is judged (R181). -/
def Store.configVerdict (t : Store) : Verdict ConfigImage := t.config.judge parseConfig

/-- KEYS is judged (R181). -/
def Store.keysVerdict (t : Store) : Verdict (Vector Key 8) := t.keys.judge parseKeys

/-- KNOWN is judged (R181). -/
def Store.knownVerdict (t : Store) : Verdict KnownImage := t.known.judge parseKnown

/-- The tables as CONFIG and KEYS load them, or with the defaults where a section is lost; the volatile tables take their reset
values (R158, R179, R181). -/
def Store.loadedTables (t : Store) : Tables :=
  let c := t.configVerdict.contents (configImage defaultTables)
  { defaultTables with
    policy := c.policy
    classes := c.classes
    sockets := c.sockets
    settings := c.settings
    locks := c.locks
    keys := t.keysVerdict.contents defaultKeys }

/-- KNOWN as loaded, or its defaults where it is lost (R181). -/
def Store.loadedKnown (t : Store) : KnownImage :=
  t.knownVerdict.contents ⟨[], 0#32, 0⟩

/-- An entry after start-up: OUT, with no carried debit and no refurbishment finding (R134, R181). -/
def startedEntry (e : Entry) : Entry :=
  { e with residence := none, carried := none, refurbished := false }

/-- The nonce register after start-up (R102, R181). -/
def startNonce (k : KnownImage) : Word :=
  k.seed ^^^ BitVec.ofNat 32 (k.writeCount * 65537)

/-- The Link Interface after reset (R16). -/
def Link.fresh (straps : BitVec 4) : Link where
  strap := straps
  receiver := none
  headReceiver := none
  up := false
  lossTimer := none
  crcErrors := 0
  forward := []
  passThrough := []
  replies := []
  downTx := none
  upTx := none

/-- The watches after start-up, before any arrival: DISABLED or QUIET by the slot configuration (R73). -/
def startWatches (t : Tables) : Vector Watch 12 :=
  t.sockets.map fun c => if c.enabled then .quiet else .disabled

/-- The Supply Bus Master after start-up: a line that is low already is timed from now (R89). -/
def Bus.fresh (t : Tables) (low : Bool) : Bus where
  queue := []
  flight := none
  status := .idle
  lowTiming := low
  releaseTimer := false
  watches := startWatches t

/-- The Event Unit before the events of start-up: nothing pending, every kind enabled, notices on, the gate open (R170, R172,
R182). -/
def EventUnit.fresh : EventUnit where
  pending := []
  enabled := allEventKinds
  gateOpen := true
  noticesOn := true
  noticeReady := false
  holdoff := none

/-- Every block in its state after reset, with what the sections hold (R181, R182). -/
def State.loaded (s : State) (straps : BitVec 4) : State :=
  let tables := s.store.loadedTables
  let known := s.store.loadedKnown
  { s with
    run := .running
    link := Link.fresh straps
    swath := SwathPath.fresh
    heads := Vector.replicate 4 (HeadRecord.fresh tables.staleTime)
    residue := Vector.replicate 12 0
    slots := Vector.replicate 12 SlotRecord.fresh
    bus := Bus.fresh tables s.busLow
    nonce := startNonce known
    commits := CommitUnit.fresh
    known := known.entries.map startedEntry
    decoder := Decoder.fresh
    tables := tables
    events := EventUnit.fresh
    store := { s.store with save := none, writeCount := known.writeCount } }

/-- The detail of RESTART: 0 for POWER, 1 for PIN (R168). -/
def restartDetail : ResetCause → Word
  | .power => 0#32
  | .pin => 1#32

/-- The event of a section's verdict (R181). -/
def State.reportSection {α : Type} (s : State) (v : Verdict α) (index : Nat) : State :=
  match v with
  | .loaded _ => s
  | .corrected _ => s.raise .storeCorrected index 0#32
  | .lost => s.raise .storeSectionLost index 0#32

/-- A watch left QUIET whose line reads present takes its arrival (R73). -/
def State.startArrival (s : State) (n : Slot) : State :=
  match s.watch n with
  | .quiet => if s.present[n] then s.arrive n else s
  | _ => s

/-- Start-up completes (R181, R182): the blocks take their states, RESTART is placed first, and the events of the sections
and of the arrivals follow it. -/
def State.completeStart (s : State) (straps : BitVec 4) : State :=
  let s1 := (s.loaded straps).raise .restart 0 (restartDetail s.cause)
  let s2 := ((s1.reportSection s.store.configVerdict 0).reportSection s.store.keysVerdict 1).reportSection
    s.store.knownVerdict 2
  (allSlots.foldl State.startArrival s2).sendNext

/-! ### The commands -/

/-- RESET (R181): power-on, or assertion of the RESET line, at any moment. -/
def execReset (cause : ResetCause) (s : State) : Answer := .next (s.assertReset cause)

/-- RESET_RELEASE (R181): the Store begins to read its sections; nothing where RESET is not asserted. -/
def execResetRelease (s : State) : Answer :=
  .next (if s.run = .asserted then { s with run := .reading } else s)

/-- START_UP (R182): the store read completes; nothing where no read is under way. -/
def execStartUp (straps : BitVec 4) (s : State) : Answer :=
  .next (if s.run = .reading then s.completeStart straps else s)

end Sys2Proof.Machine
end

