-- ==== Sys2Proof/WellFormed.lean ====
section
/-! DEFINITION. Which commands can be sent: the bounds that the link and the supply bus set on a command's operands. Every
command has its meaning on ill-formed operands too, which stand for nothing that a line can carry. -/

namespace Sys2Proof

open Sys2Proof.Machine

/-- A frame as received has a payload that fits between START and END: at most 4,096 bytes (R1). -/
def RxFrame.wf (f : RxFrame) : Bool := decide (f.payload.length ≤ maxPayload)

/-- The bytes of a frame on a line: at most 4,102, and for a whole frame really to be discarded (R1, R5). -/
def Discarded.wf (d : Discarded) : Bool :=
  discarded d &&
    match d with
    | .headSymbol _ => true
    | .headFrame bytes => decide (bytes.length ≤ maxFrameBytes)
    | .fmtFrame bytes => decide (bytes.length ≤ maxFrameBytes)

/-- The operands of a command are ones that a line can carry. -/
def Instr.wf : Instr → Bool
  | .swathOpen f => f.wf
  | .fire f => f.wf
  | .swathClose f => f.wf
  | .requestFrame f => f.wf
  | .headStatus f => f.wf
  | .passThroughFrame _ f => f.wf
  | .supplyReply bytes => decide (bytes.length = 9) || decide (bytes.length = 13)
  | .discardedFrame d => d.wf
  | .reset _ => true
  | .resetRelease => true
  | .startUp _ => true
  | .linkSymbol _ => true
  | .linkLoss => true
  | .downstreamSendEnd => true
  | .upstreamSendEnd => true
  | .tempStale _ => true
  | .lineGoesPresent _ => true
  | .lineGoesAbsent _ => true
  | .seating _ => true
  | .removal _ => true
  | .transactionBegin => true
  | .commandSent => true
  | .responseTimeout => true
  | .busStuck => true
  | .faultEnd => true
  | .holdoffExpiry _ => true
  | .noticeHoldoffExpiry => true
  | .loadTable => true
  | .readTable => true
  | .lockTable => true
  | .querySlot => true
  | .queryKnown => true
  | .queryStatus => true
  | .eventsRead => true
  | .eventsClear => true
  | .eventsEnable => true
  | .noticesOn => true
  | .noticesOff => true
  | .reauthenticateSlot => true
  | .commitSlot => true
  | .park => true
  | .parkingCopies => true
  | .resume => true
  | .saveStore => true
  | .saveComplete => true
  | .linkReset => true
  | .unknownRequest => true
  | .busLineReleased => true
  | .busLinePulledLow => true
  | .sectionWritten => true

end Sys2Proof
end

