-- ==== Sys2Proof/Decode.lean ====
section
/-! DEFINITION. The command that a word spells. No row of spec/opcode_table.json has bits (every row's `fields` is empty), so
no word spells a command (log entry 24). What a frame's bytes spell is in Machine/Operands.lean. -/

namespace Sys2Proof

/-- The command that the bits of a word spell: none, for the table gives no command any bits. -/
def decodeTableWord (_nbits _w : Nat) : Option Instr := none

end Sys2Proof
end

