-- ==== Sys2Proof/Machine/Dispatch.lean ====
section
/-! DEFINITION. The meaning of every command: one arm for each constructor of Instr. -/

namespace Sys2Proof.Machine

def exec (i : Instr) (s : State) : Host.Outcome State Fault Refusal :=
  match i with
  | .reset cause => Sys2Proof.Machine.execReset cause s
  | .resetRelease => Sys2Proof.Machine.execResetRelease s
  | .startUp straps => Sys2Proof.Machine.execStartUp straps s
  | .linkSymbol symbol => Sys2Proof.Machine.execLinkSymbol symbol s
  | .linkLoss => Sys2Proof.Machine.execLinkLoss s
  | .swathOpen frame => Sys2Proof.Machine.execSwathOpen frame s
  | .fire frame => Sys2Proof.Machine.execFire frame s
  | .swathClose frame => Sys2Proof.Machine.execSwathClose frame s
  | .requestFrame frame => Sys2Proof.Machine.execRequestFrame frame s
  | .headStatus frame => Sys2Proof.Machine.execHeadStatus frame s
  | .passThroughFrame kind frame => Sys2Proof.Machine.execPassThroughFrame kind frame s
  | .downstreamSendEnd => Sys2Proof.Machine.execDownstreamSendEnd s
  | .upstreamSendEnd => Sys2Proof.Machine.execUpstreamSendEnd s
  | .tempStale head => Sys2Proof.Machine.execTempStale head s
  | .lineGoesPresent slot => Sys2Proof.Machine.execLineGoesPresent slot s
  | .lineGoesAbsent slot => Sys2Proof.Machine.execLineGoesAbsent slot s
  | .seating slot => Sys2Proof.Machine.execSeating slot s
  | .removal slot => Sys2Proof.Machine.execRemoval slot s
  | .transactionBegin => Sys2Proof.Machine.execTransactionBegin s
  | .commandSent => Sys2Proof.Machine.execCommandSent s
  | .supplyReply bytes => Sys2Proof.Machine.execSupplyReply bytes s
  | .responseTimeout => Sys2Proof.Machine.execResponseTimeout s
  | .busStuck => Sys2Proof.Machine.execBusStuck s
  | .faultEnd => Sys2Proof.Machine.execFaultEnd s
  | .holdoffExpiry slot => Sys2Proof.Machine.execHoldoffExpiry slot s
  | .noticeHoldoffExpiry => Sys2Proof.Machine.execNoticeHoldoffExpiry s
  | .loadTable => Sys2Proof.Machine.execLoadTable s
  | .readTable => Sys2Proof.Machine.execReadTable s
  | .lockTable => Sys2Proof.Machine.execLockTable s
  | .querySlot => Sys2Proof.Machine.execQuerySlot s
  | .queryKnown => Sys2Proof.Machine.execQueryKnown s
  | .queryStatus => Sys2Proof.Machine.execQueryStatus s
  | .eventsRead => Sys2Proof.Machine.execEventsRead s
  | .eventsClear => Sys2Proof.Machine.execEventsClear s
  | .eventsEnable => Sys2Proof.Machine.execEventsEnable s
  | .noticesOn => Sys2Proof.Machine.execNoticesOn s
  | .noticesOff => Sys2Proof.Machine.execNoticesOff s
  | .reauthenticateSlot => Sys2Proof.Machine.execReauthenticateSlot s
  | .commitSlot => Sys2Proof.Machine.execCommitSlot s
  | .park => Sys2Proof.Machine.execPark s
  | .parkingCopies => Sys2Proof.Machine.execParkingCopies s
  | .resume => Sys2Proof.Machine.execResume s
  | .saveStore => Sys2Proof.Machine.execSaveStore s
  | .saveComplete => Sys2Proof.Machine.execSaveComplete s
  | .linkReset => Sys2Proof.Machine.execLinkReset s
  | .unknownRequest => Sys2Proof.Machine.execUnknownRequest s
  | .discardedFrame what => Sys2Proof.Machine.execDiscardedFrame what s
  | .busLineReleased => Sys2Proof.Machine.execBusLineReleased s
  | .busLinePulledLow => Sys2Proof.Machine.execBusLinePulledLow s
  | .sectionWritten => Sys2Proof.Machine.execSectionWritten s

end Sys2Proof.Machine
end

