-- ==== Sys2Proof/Safety.lean ====
section
/-! DEFINITION. What holds of the part at all times, in the terms the statements use: the bounds of its queues, the notice
rule, the metering ranges, the column allowance, the supply bus, the tables' ranges, the agreement of slots, watches and list;
and the words in which the statements speak of a request's answer. -/

namespace Sys2Proof.Machine

/-- The queues of the Link Interface and of the Request Decoder are within their lengths, the CRC error count within 16
bits, a frame being received on either lane within 4,102 bytes, and the link loss timer runs exactly while the link is UP (R1,
R5, R7, R10, R11, R13, R156). -/
def State.linkBounded (s : State) : Prop :=
  s.link.forward.length ≤ 4 ∧ s.link.passThrough.length ≤ 8 ∧ s.link.replies.length ≤ 4
    ∧ s.decoder.requests.length ≤ 4 ∧ s.link.crcErrors ≤ 65535
    ∧ (∀ bytes, s.link.receiver = some bytes → bytes.length ≤ maxFrameBytes)
    ∧ (∀ bytes, s.link.headReceiver = some bytes → bytes.length ≤ maxFrameBytes)
    ∧ s.link.lossTimer.isSome = s.link.up

/-- Once start-up is complete, a transmitter that sends FILL has nothing that waits for it, and a request waits in the request
queue only while the reply queue is full (R9, R12, R157). -/
def State.takenUp (s : State) : Prop :=
  s.run = .running →
    (s.link.downTx = none → s.link.forward = [])
      ∧ (s.link.upTx = none → s.link.replies = [] ∧ s.link.passThrough = [] ∧ s.events.noticeReady = false)
      ∧ (s.decoder.requests ≠ [] → s.link.replies.length = 4)

/-- The Event Unit: no event name is pending twice, every pending event's index is one its kind has, no event is pending
while the gate is open and notices are on, the hold-off timer runs only while the gate is closed, and RESTART and REFILL
WARNING are enabled (R168 to R174). -/
def EventUnit.sound (u : EventUnit) : Prop :=
  (u.pending.map Event.name).Nodup ∧ (∀ e ∈ u.pending, e.index < e.kind.indices)
    ∧ (u.gateOpen = true → u.noticesOn = true → u.pending = [])
    ∧ (u.holdoff.isSome = true → u.gateOpen = false)
    ∧ EventKind.restart ∈ u.enabled ∧ EventKind.refillWarning ∈ u.enabled

/-- Every residue is less than one nanolitre and every pending debit within 32 bits (R58, R59). -/
def State.metered (s : State) : Prop :=
  ∀ n : Slot, s.residue[n] < subUnits ∧ (s.slot n).pendingDebit ≤ maxNanolitres

/-- All the drops counted for a (head, lane). -/
def DropCount.total (c : DropCount) : Nat := c.small + c.medium + c.large

/-- The open swath has at most 65,535 columns, no (head, lane) has taken more than it has, nor more than 65,535 in any swath,
and each has at most 512 drops counted for each column taken (R25, R29). -/
def State.columnsBounded (s : State) : Prop :=
  (∀ d, s.swath.descriptor = some d → d.columns ≤ 65535 ∧ ∀ i : LaneIndex, s.swath.taken[i] ≤ d.columns)
    ∧ (∀ i : LaneIndex, s.swath.taken[i] ≤ 65535)
    ∧ ∀ i : LaneIndex, s.swath.drops[i].total ≤ 512 * s.swath.taken[i]

/-- No swath is open while the part is parking or parked (R175, R177). -/
def State.parkedClosed (s : State) : Prop :=
  s.swath.descriptor.isSome = true → s.decoder.park = .active

/-- The supply bus: at most one request of each slot and kind is queued, a transaction is in flight exactly while the bus is
BUSY, no request waits for an IDLE bus, the release timer runs only in FAULT with the line high, only a line held low is
timed, and neither is timed until start-up is complete (R80 to R82, R85, R86, R89, R181). -/
def State.busSettled (s : State) : Prop :=
  s.bus.queue.Nodup ∧ (s.bus.flight.isSome = true ↔ s.bus.status = .busy)
    ∧ (s.bus.status = .idle → s.bus.queue = [])
    ∧ (s.bus.releaseTimer = true → s.bus.status = .fault ∧ s.busLow = false)
    ∧ (s.bus.lowTiming = true → s.busLow = true)
    ∧ (s.run ≠ .running → s.bus.releaseTimer = false ∧ s.bus.lowTiming = false)

/-- The points of a curve lie in their ranges (R49). -/
def curveInRange (curve : Vector CurvePoint 8) : Prop :=
  ∀ k : Fin 8,
    -80 ≤ curve[k].temperature ∧ curve[k].temperature ≤ 300 ∧ 256 ≤ curve[k].factor ∧ curve[k].factor ≤ 2047

/-- No thinning map entry is above its code (R158). -/
def thinInRange (v : Vector (BitVec 2) 16) : Prop :=
  ∀ i : Fin 16, v[i].toNat ≤ i.val % 4

/-- A copy that is held has a property. -/
def Staging.Holds {α : Type} (p : α → Prop) : Staging α → Prop
  | .none => True
  | .opened c => p c
  | .ready c => p c

/-- The active curve is valid, and the active tables lie in their ranges (R49, R53, R158, R159). -/
def Tables.sound (t : Tables) : Prop :=
  curveValid t.curve = true ∧ curveInRange t.curve ∧ thinInRange t.thin
    ∧ (∀ i : Fin 12, t.drop[i] ≤ 4095)
    ∧ (∀ i : Fin 24, settingInRange i.val t.settings[i] = true) ∧ settingsAgree t.settings = true
    ∧ (∀ k : Fin 16, t.classes[k].ceiling ≤ 4294967295 ∧ t.classes[k].low ≤ 1000 ∧ t.classes[k].reserve ≤ t.classes[k].low)

/-- The staging copies that are held lie in their ranges (R159, R161). -/
def Decoder.copiesSound (d : Decoder) : Prop :=
  d.curveCopy.Holds curveInRange ∧ d.thinCopy.Holds thinInRange
    ∧ d.dropCopy.Holds fun v => ∀ i : Fin 12, v[i] ≤ 4095

/-- The factors of the open swath lie in 256 to 2,047 (R51). -/
def State.factorsInRange (s : State) : Prop :=
  ∀ d, s.swath.descriptor = some d → ∀ h : Head, ∀ u, d.heads[h] = some u → 256 ≤ u.factor ∧ u.factor ≤ 2047

/-- The tables, the staging copies and the factors lie in their ranges. -/
def State.tablesSound (s : State) : Prop :=
  s.tables.sound ∧ s.decoder.copiesSound ∧ s.factorsInRange

/-- The slots and the Known Cartridge List agree: an entry is IN SLOT n exactly when slot n is bound to its serial, every
bound serial has an entry, no two entries hold one serial, and there are at most 48 (R133, R135). -/
def State.bindingsAgree (s : State) : Prop :=
  (∀ n serial, s.boundSerial n = some serial → ∃ e ∈ s.known, e.serial = serial ∧ e.residence = some n)
    ∧ (∀ e ∈ s.known, ∀ n, e.residence = some n → s.boundSerial n = some e.serial)
    ∧ (s.known.map Entry.serial).Nodup ∧ s.known.length ≤ listCapacity

/-- Whether a slot in a state may be bound, as R91's table says for each state. -/
def SlotState.allowsBinding : SlotState → Bool → Prop
  | .empty, bound => bound = false
  | .settling, bound => bound = false
  | .foreign, bound => bound = false
  | .identifying, _ => True
  | .holdoff, _ => True
  | .authenticating, bound => bound = true
  | .genuine, bound => bound = true
  | .suspect, bound => bound = true
  | .misplaced, bound => bound = true
  | .reused, bound => bound = true

/-- A slot's record agrees with itself: bound as its state says, no L and no proven flag unbound, the hold-off timer running
only in HOLDOFF, a countdown only in GENUINE and SUSPECT, and both of these proven with an L (R90, R91, R95, R113). -/
def SlotRecord.sound (r : SlotRecord) : Prop :=
  r.state.allowsBinding r.binding.isSome
    ∧ (r.binding = none → r.level = none ∧ r.proven = false)
    ∧ (r.holdoff.isSome = true → r.state = .holdoff)
    ∧ (r.state.isProven = false → r.countdown = 0)
    ∧ (r.state.isProven = true → r.proven = true ∧ r.level.isSome = true)

/-- Every slot's record agrees with itself, and its band is the one its estimate and marks give now (R65, R66). -/
def State.slotsSound (s : State) : Prop :=
  ∀ n : Slot, (s.slot n).sound ∧ (s.slot n).band = currentBand s.tables (s.slot n)

/-- A slot's state is one that its presence watch allows (R73). -/
def Watch.allows : Watch → SlotState → Prop
  | .disabled, st => st = .empty
  | .quiet, st => st = .empty
  | .arriving _, st => st = .settling
  | .seated, st => st ≠ .empty ∧ st ≠ .settling
  | .leaving .arriving _, st => st = .settling
  | .leaving .seated _, st => st ≠ .empty ∧ st ≠ .settling

/-- What a presence watch that reads its line last read (R73). -/
def Watch.reads : Watch → Option Bool
  | .disabled => none
  | .quiet => some false
  | .arriving _ => some true
  | .seated => some true
  | .leaving _ _ => some false

/-- A watch in ARRIVING or LEAVING, in which the settle timer runs (R73). -/
def Watch.isSettling : Watch → Bool
  | .arriving _ => true
  | .leaving _ _ => true
  | _ => false

/-- A watch's settle timer, with the length it was started with, if it runs (R73, R77). -/
def Watch.settleTimer : Watch → Option Nat
  | .arriving t => t
  | .leaving _ t => t
  | _ => none

/-- Every watch is DISABLED exactly where its slot is not enabled, its slot's state is one it allows, and once start-up is
complete its line is as it last read it and its settle timer runs in ARRIVING and LEAVING; until then no settle timer runs (R73,
R78, R181). -/
def State.watchesAgree (s : State) : Prop :=
  ∀ n : Slot, (s.watch n = .disabled ↔ s.tables.sockets[n].enabled = false)
    ∧ (s.watch n).allows (s.slot n).state
    ∧ (s.run = .running → ∀ b, (s.watch n).reads = some b → s.present[n] = b)
    ∧ (s.watch n).settleTimer.isSome = (s.run == .running && (s.watch n).isSettling)

/-- The suspicion of every entry in a slot is settled: its mark is set where its count has reached the threshold, a GENUINE
slot's mark is clear and a SUSPECT slot's set (R140, R151, R152). -/
def State.suspicionSettled (s : State) : Prop :=
  ∀ e ∈ s.known, ∀ n, e.residence = some n →
    (s.tables.threshold ≤ e.count → e.suspect = true)
      ∧ ((s.slot n).state = .genuine → e.suspect = false)
      ∧ ((s.slot n).state = .suspect → e.suspect = true)

/-- A slot's commit record agrees with the supply bus: WAITING has its DEBIT queued, IN FLIGHT is the DEBIT on the line, of the
amount and nonce recorded, and has none queued, nor has IN DOUBT (R117, R120). -/
def State.commitAgrees (s : State) (n : Slot) : Prop :=
  match (s.commit n).phase with
  | .idle => True
  | .waiting => ⟨n, .debit⟩ ∈ s.bus.queue
  | .inFlight d nonce _ _ _ =>
    (∃ f, s.bus.flight = some f ∧ f.kind = .debit ∧ f.slot = n ∧ f.amount = d ∧ f.nonce = nonce ∧ f.slotLeft = false)
      ∧ ⟨n, .debit⟩ ∉ s.bus.queue
  | .inDoubt _ _ => ⟨n, .debit⟩ ∉ s.bus.queue

/-- Once start-up is complete, every commit record agrees with the supply bus, one that is not IDLE belongs to a bound slot,
and the orphan record is that of the DEBIT on the line, whose slot has left (R117, R128). -/
def State.commitsAgree (s : State) : Prop :=
  s.run = .running →
    (∀ n : Slot, s.commitAgrees n ∧ ((s.slot n).binding = none → (s.commit n).phase = .idle))
      ∧ ∀ o, s.commits.orphan = some o →
        ∃ f, s.bus.flight = some f ∧ f.kind = .debit ∧ f.slot = o.slot ∧ f.amount = o.amount ∧ f.nonce = o.nonce
          ∧ f.slotLeft = true

/-! ### Requests as the statements speak of them -/

/-- A request that would be taken now: it is at the front of the request queue, and the reply queue has a free place (R11,
R157). -/
def State.offers (s : State) (r : Request) : Prop :=
  s.link.replies.length < 4 ∧ s.decoder.requests.head? = some r

/-- The row of the opcode table that takes a request: by its code, an EVENTS request by its operation too; UNKNOWN_REQUEST where
no rule acts on it (R155, R157; log entry 7). -/
def Request.row (r : Request) : Instr :=
  match r.code.toNat with
  | 1 => .loadTable
  | 2 => .readTable
  | 3 => .lockTable
  | 4 => .querySlot
  | 5 => .queryKnown
  | 6 => .queryStatus
  | 7 =>
    match r.args.head? with
    | none => .unknownRequest
    | some operation =>
      match operation.toNat with
      | 0 => .eventsRead
      | 1 => .eventsClear
      | 2 => .eventsEnable
      | 3 => .noticesOn
      | 4 => .noticesOff
      | _ => .unknownRequest
  | 8 => .reauthenticateSlot
  | 9 => .commitSlot
  | 10 => .park
  | 11 => .resume
  | 12 => .saveStore
  | 13 => .linkReset
  | _ => .unknownRequest

/-- The REPLY to a request (R11, R155). -/
def State.replyTo (s : State) (r : Request) (status : Status) (results : List Byte) : Frame :=
  makeFrame .reply s.link.address (r.code :: r.tag :: status.code :: results)

/-- The state in which the front request has been answered and nothing else has changed. -/
def State.answered (s : State) (r : Request) (status : Status) (results : List Byte) : State :=
  { s with
    decoder := { s.decoder with requests := s.decoder.requests.drop 1 }
    link := { s.link with replies := s.link.replies ++ [s.replyTo r status results] } }

end Sys2Proof.Machine
end

