-- ==== Sys2Proof/Certificates/Slice0/Obligations.lean ====
section
/-! DEFINITION. The statements for the provers. Each is about every state unless its hypotheses say otherwise; a state update
written out field by field says that every field not written is unchanged. `State.sendNext` is what both transmitters begin at
the end of a command, `State.finish` that and what the supply bus and the parking take up first, `State.serve` the taking of the
requests that can be taken: O29 says what they can do. -/

open Sys2Proof Sys2Proof.Machine

/-! ### The queue, reset and start-up -/

/-- O1. Log entry 1. -/
def Obligations.StepRunsTheFrontCommand : Prop :=
  (∀ (c : Instr) (rest : List Instr) (s : State), step { s with pending := c :: rest } = exec c { s with pending := rest })
    ∧ ∀ s : State, step { s with pending := [] } = .next { s with pending := [] }

/-- O2. Every command answers a next state, and none but RESET, RESET_RELEASE and START_UP changes where the part stands with
respect to reset (R181). -/
def Obligations.CommandsLeaveTheQueueAlone : Prop :=
  ∀ (c : Instr) (s : State), ∃ t, exec c s = .next t ∧ t.pending = s.pending
    ∧ match c with
      | .reset cause => t.run = .asserted ∧ t.cause = cause
      | .resetRelease => t.run = (if s.run = .asserted then .reading else s.run) ∧ t.cause = s.cause
      | .startUp _ => t.run = (if s.run = .reading then .running else s.run) ∧ t.cause = s.cause
      | _ => t.run = s.run ∧ t.cause = s.cause

/-- O3. Until start-up is complete the receivers take no symbol, the transmitters stay stopped, the lines are not read and no
timer runs (R181): only the pins themselves move. -/
def Obligations.OnlyPinsMoveBeforeStartUp : Prop :=
  ∀ (c : Instr) (s : State), s.run ≠ .running →
    match c with
    | .reset _ => True
    | .resetRelease => True
    | .startUp _ => True
    | .lineGoesPresent n => exec c s = .next { s with present := s.present.set n.val true }
    | .lineGoesAbsent n => exec c s = .next { s with present := s.present.set n.val false }
    | .busLineReleased => exec c s = .next { s with busLow := false }
    | .busLinePulledLow => exec c s = .next { s with busLow := true }
    | _ => exec c s = .next s

/-- O4. R16, R36, R89, R180, R181; the model's choices are those of log entries 2 (a RESET_RELEASE where RESET is not asserted
changes nothing), 11, 14 and 25. -/
def Obligations.ResetStopsEveryBlock : Prop :=
  (∀ (cause : ResetCause) (s : State),
    exec (.reset cause) s = .next
      { s with
        run := .asserted
        cause := cause
        link :=
          { s.link with
            receiver := none
            headReceiver := none
            up := false
            lossTimer := none
            downTx := none
            upTx := none }
        swath := { s.swath with descriptor := none }
        heads := s.heads.map fun h => { h with staleTimer := none }
        slots := s.slots.map fun r => { r with holdoff := none }
        bus :=
          { queue := []
            flight := none
            status := .idle
            lowTiming := false
            releaseTimer := false
            watches := s.bus.watches.map fun w =>
              match w with
              | .arriving _ => .arriving none
              | .leaving before _ => .leaving before none
              | w => w }
        events := { s.events with holdoff := none }
        store := s.store.stopSave })
    ∧ (∀ s : State, exec .resetRelease s = .next (if s.run = .asserted then { s with run := .reading } else s))
    ∧ ∀ t : Store,
        t.stopSave.writeCount = t.writeCount ∧ t.stopSave.save = none
          ∧ match t.save with
            | none => t.stopSave = t
            | some v =>
              match v.writing with
              | .config =>
                crc16 t.stopSave.config.bytes ≠ t.stopSave.config.crc ∧ t.stopSave.keys = t.keys
                  ∧ t.stopSave.known = t.known
              | .keys =>
                t.stopSave.config = t.config ∧ crc16 t.stopSave.keys.bytes ≠ t.stopSave.keys.crc
                  ∧ t.stopSave.known = t.known
              | .known =>
                t.stopSave.config = t.config ∧ t.stopSave.keys = t.keys
                  ∧ crc16 t.stopSave.known.bytes ≠ t.stopSave.known.crc

/-- O5. R16, R17, R42, R73, R89, R90, R102, R117, R133, R158, R161, R179, R181, R182. Each section is judged by its CRC: loaded,
corrected by the one bit that makes the CRC match, or lost; its bytes are laid out as log entry 10 says. -/
def Obligations.StartUpLeavesEveryBlockAfterReset : Prop :=
  (∀ (straps : BitVec 4) (s : State), s.run = .reading →
    ∃ t, exec (.startUp straps) s = .next t ∧
      let vc := s.store.config.judge parseConfig
      let vk := s.store.keys.judge parseKeys
      let vn := s.store.known.judge parseKnown
      let contents : {α : Type} → Verdict α → α → α := fun v d =>
        match v with
        | .loaded c => c
        | .corrected c => c
        | .lost => d
      let config := contents vc (configImage defaultTables)
      let known := contents vn ⟨[], 0#32, 0⟩
      let sectionEvent : {α : Type} → Verdict α → Nat → List (EventKind × Nat) := fun v i =>
        match v with
        | .loaded _ => []
        | .corrected _ => [(.storeCorrected, i)]
        | .lost => [(.storeSectionLost, i)]
      let arrives : Slot → Bool := fun n => t.tables.sockets[n].enabled && s.present[n]
      (t.run = .running ∧ t.cause = s.cause ∧ t.present = s.present ∧ t.busLow = s.busLow ∧ t.pending = s.pending)
        ∧ t.tables =
          { drop := Vector.replicate 12 0
            curve := defaultCurve
            lanes := Vector.replicate 32 none
            thin := Vector.ofFn fun i : Fin 16 => BitVec.ofNat 2 (i.val % 4)
            policy := config.policy
            classes := config.classes
            keys := contents vk defaultKeys
            sockets := config.sockets
            settings := config.settings
            locks := config.locks }
        ∧ t.swath = SwathPath.fresh
        ∧ t.heads = Vector.replicate 4 ⟨0, true, true, some t.tables.settings[17]⟩
        ∧ t.residue = Vector.replicate 12 0
        ∧ (∀ n : Slot, t.slot n = { SlotRecord.fresh with state := if arrives n then .settling else .empty })
        ∧ (∀ n : Slot,
            t.watch n =
              if t.tables.sockets[n].enabled = false then .disabled
              else if s.present[n] then .arriving (some t.tables.settings[19]) else .quiet)
        ∧ (t.bus.queue = [] ∧ t.bus.flight = none ∧ t.bus.status = .idle ∧ t.bus.lowTiming = s.busLow
            ∧ t.bus.releaseTimer = false)
        ∧ t.nonce = known.seed ^^^ BitVec.ofNat 32 (known.writeCount * 65537)
        ∧ t.commits = CommitUnit.fresh
        ∧ t.known = known.entries.map (fun e => { e with residence := none, carried := none, refurbished := false })
        ∧ t.decoder = Decoder.fresh
        ∧ t.store = { s.store with save := none, writeCount := known.writeCount }
        ∧ t.events.pending.map Event.name =
            (.restart, 0) :: (sectionEvent vc 0 ++ sectionEvent vk 1 ++ sectionEvent vn 2
              ++ (allSlots.filter arrives).map fun n => (.inserted, n.val))
        ∧ t.events.pending.head? = some ⟨.restart, 0,
            match s.cause with
            | .power => 0#32
            | .pin => 1#32⟩
        ∧ (t.events.enabled = allEventKinds ∧ t.events.gateOpen = false ∧ t.events.noticesOn = true
            ∧ t.events.noticeReady = false ∧ t.events.holdoff = none)
        ∧ t.link =
            { Link.fresh straps with
              upTx := some (makeFrame .notice (0xA0#8 + straps.setWidth 8) t.events.noticePayload) })
    ∧ ∀ (α : Type) (parse : List Byte → Option α) (v : Section),
        let flipped : Nat → List Byte := fun i =>
          v.bytes.modify (i / 8) fun b => b ^^^ (1#8 <<< (i % 8))
        match v.judge parse with
        | .loaded c => crc16 v.bytes = v.crc ∧ parse v.bytes = some c
        | .corrected c =>
          crc16 v.bytes ≠ v.crc
            ∧ ((∃ i < 8 * v.bytes.length, crc16 (flipped i) = v.crc ∧ parse (flipped i) = some c)
              ∨ (parse v.bytes = some c ∧ ∃ i < 16, crc16 v.bytes = v.crc ^^^ (1#16 <<< i)))
        | .lost =>
          (crc16 v.bytes = v.crc → parse v.bytes = none)
            ∧ ((∃ i < 8 * v.bytes.length, crc16 (flipped i) = v.crc) → crc16 v.bytes ≠ v.crc →
                ∃ i < 8 * v.bytes.length, crc16 (flipped i) = v.crc ∧ parse (flipped i) = none)
            ∧ ((∃ i < 16, crc16 v.bytes = v.crc ^^^ (1#16 <<< i)) → crc16 v.bytes ≠ v.crc →
                (∀ i < 8 * v.bytes.length, crc16 (flipped i) ≠ v.crc) → parse v.bytes = none)

/-- O6. R16, R17, R42, R49, R90, R117, R156, R158, R161, R181: the defaults of the tables and each block's state after reset. The
state after reset is what START_UP leaves with the store of log entry 12, and every invariant holds of it. -/
def Obligations.ResetStateHoldsEveryInvariant : Prop :=
  defaultTables =
      { drop := Vector.replicate 12 0
        curve :=
          #v[⟨-80, 1024⟩, ⟨-40, 1024⟩, ⟨0, 1024⟩, ⟨40, 1024⟩, ⟨80, 1024⟩, ⟨120, 1024⟩, ⟨200, 1024⟩, ⟨300, 1024⟩]
        lanes := Vector.replicate 32 none
        thin := #v[0#2, 1#2, 2#2, 3#2, 0#2, 1#2, 2#2, 3#2, 0#2, 1#2, 2#2, 3#2, 0#2, 1#2, 2#2, 3#2]
        policy := #v[.blank, .pass, .pass, .thin, .blank, .pass, .blank, .blank, .blank]
        classes := Vector.replicate 16 ⟨false, 0#16, 0#16, 0#8, 0, 0, 0, 0⟩
        keys := Vector.replicate 8 ⟨0#32, 0#32, 0#32, 0#32⟩
        sockets := Vector.replicate 12 ⟨true, 0xFF#8⟩
        settings :=
          #v[24, 8, 8, 4, 8, 16, 24, 1000000, 64, 250000, 2000000, 3, 2, 2000, 3, 0, 6, 500, 1100, 200, 20, 100, 20, 0]
        locks := ⟨false, false, false, false, false⟩ }
    ∧ defaultCurve = defaultTables.curve ∧ defaultKeys = defaultTables.keys ∧ State.reset.tables = defaultTables
    ∧ SlotRecord.fresh =
      { state := .empty
        binding := none
        proven := false
        allowance := 0
        attempts := 0
        round := 0
        holdoff := none
        countdown := 0
        level := none
        pendingDebit := 0
        band := .none }
    ∧ SwathPath.fresh =
      { descriptor := none
        refused := false
        taken := Vector.replicate 32 0
        drops := Vector.replicate 32 ⟨0, 0, 0⟩
        latched := Vector.replicate 12 .blank
        lastNumber := 0#32 }
    ∧ CommitUnit.fresh = ⟨Vector.replicate 12 ⟨.idle, false⟩, none⟩
    ∧ Decoder.fresh =
      { requests := []
        dropCopy := .none
        curveCopy := .none
        laneCopy := .none
        thinCopy := .none
        policyCopy := .none
        park := .active }
    ∧ (∀ straps,
        Link.fresh straps =
          { strap := straps
            receiver := none
            headReceiver := none
            up := false
            lossTimer := none
            crcErrors := 0
            forward := []
            passThrough := []
            replies := []
            downTx := none
            upTx := none })
    ∧ exec (.startUp 0#4) { State.reset with run := .reading } = .next State.reset
    ∧ State.reset.linkBounded ∧ State.reset.takenUp ∧ State.reset.events.sound ∧ State.reset.metered ∧ State.reset.columnsBounded
    ∧ State.reset.parkedClosed ∧ State.reset.busSettled ∧ State.reset.tablesSound ∧ State.reset.bindingsAgree
    ∧ State.reset.slotsSound ∧ State.reset.watchesAgree ∧ State.reset.suspicionSettled ∧ State.reset.commitsAgree

/-! ### What every step keeps -/

/-- O7. R1, R5, R7, R9 to R13, R156, R157: the queues keep their lengths, and nothing waits for a transmitter that sends FILL nor,
while the reply queue has a free place, for the Request Decoder. -/
def Obligations.LinkQueuesStayBounded : Prop :=
  ∀ s t : State, s.linkBounded ∧ s.takenUp → step s = .next t → t.linkBounded ∧ t.takenUp

/-- O8. R168 to R174. -/
def Obligations.EventUnitStaysSound : Prop :=
  ∀ s t : State, s.events.sound → step s = .next t → t.events.sound

/-- O9. R56, R58, R59. -/
def Obligations.MeteringStaysInRange : Prop :=
  ∀ s t : State, s.metered → step s = .next t → t.metered

/-- O10. R25, R29. -/
def Obligations.ColumnsTakenStayWithinTheSwath : Prop :=
  ∀ s t : State, s.columnsBounded → step s = .next t → t.columnsBounded

/-- O11. R175, R177. -/
def Obligations.NoSwathIsOpenWhileParked : Prop :=
  ∀ s t : State, s.parkedClosed → step s = .next t → t.parkedClosed

/-- O12. R80 to R82, R85, R86, R89. -/
def Obligations.SupplyBusStaysSettled : Prop :=
  ∀ s t : State, s.busSettled → step s = .next t → t.busSettled

/-- O13. R49, R51, R53, R158, R159, R161, R162. -/
def Obligations.TablesAndFactorsStayInRange : Prop :=
  ∀ s t : State, s.tablesSound → step s = .next t → t.tablesSound

/-- O14. R133, R135, R136, R141. -/
def Obligations.ListAndSlotsStayInAgreement : Prop :=
  ∀ s t : State, s.bindingsAgree → step s = .next t → t.bindingsAgree

/-- O15. R63, R65, R66, R90, R91, R95, R113. -/
def Obligations.SlotRecordsStaySound : Prop :=
  ∀ s t : State, s.bindingsAgree ∧ s.slotsSound → step s = .next t → t.bindingsAgree ∧ t.slotsSound

/-- O16. R73, R78, R91. -/
def Obligations.WatchesAndSlotsStayInAgreement : Prop :=
  ∀ s t : State, s.watchesAgree → step s = .next t → t.watchesAgree

/-- O17. R140, R151 to R153. -/
def Obligations.SuspicionStaysSettled : Prop :=
  ∀ s t : State, s.bindingsAgree ∧ settingsAgree s.tables.settings = true ∧ s.suspicionSettled → step s = .next t →
    t.bindingsAgree ∧ settingsAgree t.tables.settings = true ∧ t.suspicionSettled

/-- O18. R117, R120, R121, R128, R129. -/
def Obligations.CommitsAndBusStayInAgreement : Prop :=
  ∀ s t : State, s.busSettled ∧ s.bindingsAgree ∧ s.slotsSound ∧ s.commitsAgree → step s = .next t →
    t.busSettled ∧ t.bindingsAgree ∧ t.slotsSound ∧ t.commitsAgree

/-! ### What only some commands change -/

/-- O19. R37, R39: a latched action is loosened only at the opening of a swath, or by start-up. -/
def Obligations.LatchedActionsOnlyTighten : Prop :=
  ∀ (c : Instr) (s t : State),
    (match c with
      | .swathOpen _ => False
      | .linkSymbol .stop => False
      | .startUp _ => False
      | _ => True) →
    exec c s = .next t → ∀ n : Slot, s.swath.latched[n].strictness ≤ t.swath.latched[n].strictness

/-- O20. R40, R160, R162: the staged tables change only at the opening of a swath, or by start-up. -/
def Obligations.StagedTablesChangeOnlyAtAnOpening : Prop :=
  ∀ (c : Instr) (s t : State),
    (match c with
      | .swathOpen _ => False
      | .linkSymbol .stop => False
      | .startUp _ => False
      | _ => True) →
    exec c s = .next t →
      t.tables.drop = s.tables.drop ∧ t.tables.curve = s.tables.curve ∧ t.tables.lanes = s.tables.lanes
        ∧ t.tables.thin = s.tables.thin ∧ t.tables.policy = s.tables.policy

/-- O21. R159, R164: no command but START_UP unlocks a table or changes one that is locked. -/
def Obligations.LockedTablesStandUntilStartUp : Prop :=
  ∀ (c : Instr) (s t : State),
    (match c with
      | .startUp _ => False
      | _ => True) →
    exec c s = .next t →
      (∀ table, s.tables.locks.holds table = true → t.tables.locks.holds table = true)
        ∧ (s.tables.locks.classes = true → t.tables.classes = s.tables.classes)
        ∧ (s.tables.locks.keys = true → t.tables.keys = s.tables.keys)
        ∧ (s.tables.locks.sockets = true → t.tables.sockets = s.tables.sockets)
        ∧ (s.tables.locks.settings = true → t.tables.settings = s.tables.settings)
        ∧ (s.tables.locks.policy = true → s.decoder.policyCopy = .none →
            t.tables.policy = s.tables.policy ∧ t.decoder.policyCopy = .none)

/-- O22. R82, R102: the nonce register stands but for one advance at the beginning of a CHALLENGE or a DEBIT, which carries the
new value; start-up sets it. -/
def Obligations.NonceAdvancesWithATransaction : Prop :=
  ∀ (c : Instr) (s t : State),
    (match c with
      | .startUp _ => False
      | _ => True) →
    exec c s = .next t →
      t.nonce = s.nonce
        ∨ (t.nonce = s.nonce + 2654435769#32
            ∧ ∃ f, t.bus.flight = some f ∧ f.nonce = t.nonce ∧ f.kind ≠ .identify ∧ f.stage ≠ .awaiting)

/-! ### The Print Link -/

/-- O23. R1, R5, R13, on both lanes; log entries 15 (symbols between frames), 16 (the symbols of HEAD IN are given by
DISCARDED_FRAME) and 32 (an overlong frame is counted at its 4,103rd byte, and the receiver then waits for START). A frame that
ends and passes R1 to R4 is taken as its own command takes it. -/
def Obligations.SymbolsBuildFrames : Prop :=
  (∀ (f : RxFrame) (s : State), s.run = .running →
    (accepted .swathOpen f = true → exec (.swathOpen f) s = .next (s.frameArrives.takeFmtFrame .swathOpen f).finish)
      ∧ (accepted .fire f = true → exec (.fire f) s = .next (s.frameArrives.takeFmtFrame .fire f).sendNext)
      ∧ (accepted .swathClose f = true → exec (.swathClose f) s = .next (s.frameArrives.takeFmtFrame .swathClose f).finish)
      ∧ (accepted .request f = true → exec (.requestFrame f) s = .next (s.frameArrives.takeFmtFrame .request f).sendNext.serve)
      ∧ (accepted .headStatus f = true →
          exec (.headStatus f) s = .next (s.headFrameArrives.takeHeadFrame .headStatus f).sendNext)
      ∧ (accepted .reply f = true →
          exec (.passThroughFrame .reply f) s = .next (s.headFrameArrives.takeHeadFrame .reply f).sendNext)
      ∧ (accepted .notice f = true →
          exec (.passThroughFrame .notice f) s = .next (s.headFrameArrives.takeHeadFrame .notice f).sendNext))
  ∧ ∀ (x : Symbol) (s : State), s.run = .running →
    let lost : State → State := fun u =>
      { u with
        link := { u.link with crcErrors := min (u.link.crcErrors + 1) 65535 }
        events := EventUnit.raise .linkCrc 0 0#32 u.events }
    let within : Option (List Byte) → State := fun r =>
      { s with link := { s.link with up := true, lossTimer := some s.tables.settings[22], receiver := r } }
    let head : Option (List Byte) → State := fun r => { s with link := { s.link with headReceiver := r } }
    exec (.linkSymbol x) s = .next
        (State.serve (State.finish
          (match s.link.receiver, x with
            | none, .start => within (some [])
            | none, _ => within none
            | some bytes, .data b =>
              if bytes.length < 4102 then within (some (bytes ++ [b])) else lost (within none)
            | some _, .start => lost (within (some []))
            | some _, .fill => lost (within none)
            | some bytes, .stop =>
              match acceptedFrame fmtKind bytes with
              | some (k, f) => (within none).takeFmtFrame k f
              | none => lost (within none))))
      ∧ exec (.discardedFrame (.headSymbol x)) s = .next
        (State.sendNext
          (match s.link.headReceiver, x with
            | none, .start => head (some [])
            | none, _ => head none
            | some bytes, .data b => if bytes.length < 4102 then head (some (bytes ++ [b])) else lost (head none)
            | some _, .start => lost (head (some []))
            | some _, .fill => lost (head none)
            | some bytes, .stop =>
              match acceptedFrame headKind bytes with
              | some (k, f) => (head none).takeHeadFrame k f
              | none => lost (head none)))

/-- O24. R1 to R5, R7, R8, R13: the bytes of a frame, its CRC-16, the kinds of each lane and the payload length of each kind. A
frame that fails a check or finds no place is counted, raises LINK CRC, and does nothing more; its START makes a frame it
interrupts on its lane incomplete, and on the downstream lane its symbols set the link UP. -/
def Obligations.FramesWithoutAPlaceAreDiscarded : Prop :=
  (∀ (bs : List Byte) (i : Nat),
      byteAt bs i = bs[i]?.getD 0#8
        ∧ leField bs i 2 = (byteAt bs i).toNat + 256 * (byteAt bs (i + 1)).toNat
        ∧ leField bs i 4 =
          (byteAt bs i).toNat + 256 * (byteAt bs (i + 1)).toNat + 65536 * (byteAt bs (i + 2)).toNat
            + 16777216 * (byteAt bs (i + 3)).toNat)
  ∧ (∀ v : Nat, v < 65536 → signed16 v = if v < 32768 then (v : Int) else (v : Int) - 65536)
  ∧ (crc16 [] = 0xFFFF#16
      ∧ (∀ (bs : List Byte) (b : Byte),
          crc16 (bs ++ [b]) =
            (List.range 8).foldl (fun c _ => if c.getLsbD 15 then (c <<< 1) ^^^ 0x1021#16 else c <<< 1)
              (crc16 bs ^^^ (b.setWidth 16 <<< 8)))
      ∧ crc16 [0x31#8, 0x32#8, 0x33#8, 0x34#8, 0x35#8, 0x36#8, 0x37#8, 0x38#8, 0x39#8] = 0x29B1#16)
  ∧ [FrameKind.swathOpen, .fire, .swathClose, .request, .reply, .notice, .headStatus].map FrameKind.code
      = [1#8, 2#8, 3#8, 4#8, 5#8, 6#8, 7#8]
  ∧ (∀ (k : FrameKind) (destination : Byte) (payload : List Byte),
      makeFrame k destination payload =
        ⟨k, destination, payload, crc16 (k.code :: destination :: (leBytes 2 payload.length ++ payload))⟩)
  ∧ (∀ (k : FrameKind) (f : RxFrame),
      accepted k f = true ↔
        f.payload.length ≤ 4096 ∧ f.payload.length = f.lengthField.toNat
          ∧ crc16 (k.code :: f.destination :: (leBytes 2 f.lengthField.toNat ++ f.payload)) = f.crc
          ∧ match k with
            | .swathOpen =>
              let heads := (byteAt f.payload 6).toNat
              let windows := (byteAt f.payload 7).toNat
              1 ≤ heads ∧ heads ≤ 4 ∧ windows ≤ 2 ∧ f.payload.length = 8 + 2 * heads + 4 * windows
                ∧ ∀ i < heads, (byteAt f.payload (8 + 2 * i)).toNat ≤ 3
            | .fire =>
              let columns := (byteAt f.payload 4).toNat
              1 ≤ columns ∧ columns ≤ 16 ∧ f.payload.length = 5 + 128 * columns
            | .swathClose => f.payload.length = 4
            | .request => 2 ≤ f.payload.length
            | .reply => 3 ≤ f.payload.length
            | .notice => f.payload.length = 2
            | .headStatus => f.payload.length = 4)
  ∧ (∀ (bytes : List Byte) (k : FrameKind) (f : RxFrame),
      let whole :=
        k.code :: f.destination :: (leBytes 2 f.lengthField.toNat ++ f.payload ++ leBytes 2 f.crc.toNat)
      (acceptedFrame fmtKind bytes = some (k, f) ↔
          k ∈ [FrameKind.swathOpen, .fire, .swathClose, .request] ∧ bytes = whole ∧ accepted k f = true)
        ∧ (acceptedFrame headKind bytes = some (k, f) ↔
          k ∈ [FrameKind.headStatus, .reply, .notice] ∧ bytes = whole ∧ accepted k f = true))
  ∧ ∀ s : State, s.run = .running →
    let arrived : State :=
      { s with link := { s.link with up := true, lossTimer := some s.tables.settings[22], receiver := none } }
    let headArrived : State := { s with link := { s.link with headReceiver := none } }
    let lost : State → State := fun u =>
      { u with
        link := { u.link with crcErrors := min (u.link.crcErrors + 1) 65535 }
        events := EventUnit.raise .linkCrc 0 0#32 u.events }
    s.frameArrives = (if s.link.receiver.isSome then lost arrived else arrived)
      ∧ s.headFrameArrives = (if s.link.headReceiver.isSome then lost headArrived else headArrived)
      ∧ (∀ f, (accepted .swathOpen f = false ∨ 2 < s.link.forward.length) →
          exec (.swathOpen f) s = .next (lost s.frameArrives).finish)
      ∧ (∀ f, (accepted .fire f = false ∨ 3 < s.link.forward.length) →
          exec (.fire f) s = .next (lost s.frameArrives).sendNext)
      ∧ (∀ f, (accepted .swathClose f = false ∨ 3 < s.link.forward.length) →
          exec (.swathClose f) s = .next (lost s.frameArrives).finish)
      ∧ (∀ f, (accepted .request f = false ∨ (s.isAddressed f.destination = false ∧ 3 < s.link.forward.length)) →
          exec (.requestFrame f) s = .next (lost s.frameArrives).sendNext.serve)
      ∧ (∀ f, accepted .headStatus f = false → exec (.headStatus f) s = .next (lost s.headFrameArrives).sendNext)
      ∧ (∀ f, accepted .reply f = false →
          exec (.passThroughFrame .reply f) s = .next (lost s.headFrameArrives).sendNext)
      ∧ (∀ f, accepted .notice f = false →
          exec (.passThroughFrame .notice f) s = .next (lost s.headFrameArrives).sendNext)
      ∧ (∀ bytes, acceptedFrame headKind bytes = none →
          exec (.discardedFrame (.headFrame bytes)) s = .next (lost s.headFrameArrives).sendNext)
      ∧ ∀ bytes, acceptedFrame fmtKind bytes = none →
          exec (.discardedFrame (.fmtFrame bytes)) s = .next (lost s.frameArrives).sendNext

/-- O25. R6, R7, R156, R157: a request that is queued is taken at once where the reply queue has a free place. -/
def Obligations.RequestFramesAreTakenOrForwarded : Prop :=
  ∀ (f : RxFrame) (s : State), s.run = .running → accepted .request f = true →
    let u := s.frameArrives
    let address : Byte := 0xA0#8 + s.link.strap.setWidth 8
    let mask : Byte := BitVec.ofNat 8 s.tables.settings[23]
    exec (.requestFrame f) s = .next
      (State.serve (State.sendNext
        (if (f.destination ^^^ address) &&& ~~~mask = 0#8 then
          if u.decoder.requests.length < 4 then
            { u with
              decoder :=
                { u.decoder with
                  requests := u.decoder.requests ++ [⟨byteAt f.payload 0, byteAt f.payload 1, f.payload.drop 2⟩] } }
          else
            { u with events := EventUnit.raise .requestOverflow 0 ((byteAt f.payload 1).setWidth 32) u.events }
        else if u.link.forward.length ≤ 3 then
          { u with
            link := { u.link with forward := u.link.forward ++ [⟨.request, f.destination, f.payload, f.crc⟩] } }
        else
          { u with
            link := { u.link with crcErrors := min (u.link.crcErrors + 1) 65535 }
            events := EventUnit.raise .linkCrc 0 0#32 u.events })))

/-- O26. R10, R43 to R46: what is received on HEAD IN is read, if it is a HEAD STATUS, and passed through; TEMP_STALE, R47, which
changes nothing where the stale timer is stopped (log entry 2). `u` is the state once the frame's START has been received. -/
def Obligations.HeadReportsAreReadAndPassedThrough : Prop :=
  ∀ s : State, s.run = .running →
    let u := s.headFrameArrives
    let through : Frame → List Frame := fun g =>
      (if s.link.passThrough.length < 8 then s.link.passThrough else s.link.passThrough.drop 1) ++ [g]
    (∀ (f : RxFrame) (h : Head), accepted .headStatus f = true → (byteAt f.payload 0).toNat = h.val →
      (byteAt f.payload 1).getLsbD 0 = true →
        let reported : Int := max (-80) (min (signed16 (leField f.payload 2 2)) 300)
        let r := s.heads[h]
        let limit : Int := s.tables.settings[16]
        let tracked : Int :=
          if r.neverReported then reported
          else if r.tracked - limit ≤ reported ∧ reported ≤ r.tracked + limit then reported
          else if r.tracked + limit < reported then r.tracked + limit else r.tracked - limit
        exec (.headStatus f) s = .next
          (State.sendNext
            { u with
              heads := s.heads.set h.val ⟨tracked, false, false, some s.tables.settings[17]⟩
              link := { u.link with passThrough := through ⟨.headStatus, f.destination, f.payload, f.crc⟩ } }))
      ∧ (∀ f : RxFrame, accepted .headStatus f = true →
          3 < (byteAt f.payload 0).toNat ∨ (byteAt f.payload 1).getLsbD 0 = false →
            exec (.headStatus f) s = .next
              (State.sendNext
                { u with
                  link := { u.link with passThrough := through ⟨.headStatus, f.destination, f.payload, f.crc⟩ } }))
      ∧ (∀ f : RxFrame, accepted .reply f = true →
          exec (.passThroughFrame .reply f) s = .next
            (State.sendNext
              { u with link := { u.link with passThrough := through ⟨.reply, f.destination, f.payload, f.crc⟩ } }))
      ∧ (∀ f : RxFrame, accepted .notice f = true →
          exec (.passThroughFrame .notice f) s = .next
            (State.sendNext
              { u with link := { u.link with passThrough := through ⟨.notice, f.destination, f.payload, f.crc⟩ } }))
      ∧ ∀ h : Head,
          exec (.tempStale h) s = .next
            (if s.heads[h].staleTimer.isSome then
              State.sendNext
                { s with
                  heads := s.heads.set h.val { s.heads[h] with stale := true, staleTimer := none }
                  events := EventUnit.raise .tempStale h.val 0#32 s.events }
            else s)

/-- O27. R9, R12, R157; where no frame is being sent neither command does anything (log entry 2). -/
def Obligations.TransmittersTakeTheNextFrame : Prop :=
  ∀ s : State, s.run = .running →
    exec .downstreamSendEnd s = .next
        (match s.link.downTx, s.link.forward with
          | none, _ => s
          | some _, [] => { s with link := { s.link with downTx := none } }
          | some _, f :: rest => { s with link := { s.link with downTx := some f, forward := rest } })
      ∧ exec .upstreamSendEnd s = .next
        (match s.link.upTx, s.link.replies, s.link.passThrough with
          | none, _, _ => s
          | some _, f :: rest, _ => State.serve { s with link := { s.link with upTx := some f, replies := rest } }
          | some _, [], f :: rest => State.serve { s with link := { s.link with upTx := some f, passThrough := rest } }
          | some _, [], [] =>
            State.serve
              (if s.events.noticeReady then
                { s with
                  link :=
                    { s.link with
                      upTx := some (makeFrame .notice (0xA0#8 + s.link.strap.setWidth 8) s.events.noticePayload) }
                  events := { s.events with noticeReady := false } }
              else { s with link := { s.link with upTx := none } }))

/-- O28. R14, R15, R35. The generated SWATH CLOSE of an open swath (O30) stands alone in the forward queue. R14's effects come
in the order it lists them, so LINK LOST stands behind the events of the truncation (log entry 36). -/
def Obligations.LinkLossAndLinkResetEmptyTheQueues : Prop :=
  (∀ s : State, s.run = .running → s.link.up = true → s.link.lossTimer.isSome = true →
    let u := s.truncate
    exec .linkLoss s = .next
      (State.finish
        { u with
          link :=
            { u.link with
              forward := s.truncationFrames
              replies := []
              crcErrors := 0
              up := false
              lossTimer := none
              receiver := none }
          decoder := { u.decoder with requests := [] }
          events := EventUnit.raise .linkLost 0 0#32 u.events.openGate }))
    ∧ ∀ (r : Request) (s : State), s.run = .running → s.offers r → r.code = 13#8 →
        let u := State.truncate { s with decoder := { s.decoder with requests := s.decoder.requests.drop 1 } }
        exec .linkReset s = .next
          (State.serve (State.finish
            (if r.args = [] then
              { u with
                link :=
                  { u.link with forward := s.truncationFrames, replies := [s.replyTo r .done []], crcErrors := 0 }
                decoder := { u.decoder with requests := [] }
                events := u.events.openGate }
            else s.answered r .range [])))

/-- O29. R9, R11, R12, R81, R131, R157: the end of a command loses and reorders no frame, begins one wherever a transmitter is
free and one waits, takes requests of the supply bus only while it is IDLE, and changes nothing else; and requests are taken, each
as its own row takes it, until none waits or the reply queue is full. -/
def Obligations.CommandEndsTakeUpWhatWaits : Prop :=
  (∀ s : State,
    s.sendNext.link.downTx.toList ++ s.sendNext.link.forward = s.link.downTx.toList ++ s.link.forward
      ∧ (s.sendNext.link.downTx = none → s.sendNext.link.forward = [])
      ∧ (s.link.upTx.isSome = true → s.sendNext.link.upTx = s.link.upTx ∧ s.sendNext.link.replies = s.link.replies
          ∧ s.sendNext.link.passThrough = s.link.passThrough ∧ s.sendNext.events = s.events)
      ∧ (s.link.upTx = none → s.link.replies ≠ [] →
          s.sendNext.link.upTx.toList ++ s.sendNext.link.replies = s.link.replies ∧ s.sendNext.link.upTx.isSome = true
            ∧ s.sendNext.link.passThrough = s.link.passThrough ∧ s.sendNext.events = s.events)
      ∧ (s.link.upTx = none → s.link.replies = [] → s.link.passThrough ≠ [] →
          s.sendNext.link.upTx.toList ++ s.sendNext.link.passThrough = s.link.passThrough
            ∧ s.sendNext.link.upTx.isSome = true ∧ s.sendNext.link.replies = [] ∧ s.sendNext.events = s.events)
      ∧ (s.link.upTx = none → s.link.replies = [] → s.link.passThrough = [] →
          s.sendNext.link.upTx =
              (if s.events.noticeReady then
                some (makeFrame .notice (0xA0#8 + s.link.strap.setWidth 8) s.events.noticePayload)
              else none)
            ∧ s.sendNext.link.replies = [] ∧ s.sendNext.link.passThrough = []
            ∧ s.sendNext.events = { s.events with noticeReady := false })
      ∧ ∃ (l : Link) (ready : Bool), s.sendNext = { s with link := l, events := { s.events with noticeReady := ready } }
          ∧ l.up = s.link.up ∧ l.lossTimer = s.link.lossTimer ∧ l.receiver = s.link.receiver
          ∧ l.headReceiver = s.link.headReceiver ∧ l.strap = s.link.strap ∧ l.crcErrors = s.link.crcErrors)
    ∧ (∀ s : State, (s.bus.status = .idle → s.bus.flight = none → s.bus.queue = []) →
        ¬(s.decoder.park = .parking .commits ∧ s.commits.allSettled = true) → s.finish = s.sendNext)
    ∧ (∀ s : State,
        s.finish = s.considerQueue.endStage1.sendNext ∧ (s.run = .running → exec .parkingCopies s = .next s.endStage1)
          ∧ (s.run = .running → s.bus.isFree = true → s.bus.queue ≠ [] → exec .transactionBegin s = .next s.finish)
          ∧ (s.bus.isFree = true ↔ s.bus.status = .idle ∧ s.bus.flight = none)
          ∧ (s.commits.allSettled = true ↔ ∀ n : Slot, (s.commit n).phase = .idle ∨ ∃ d pre, (s.commit n).phase = .inDoubt d pre))
    ∧ (∀ s : State,
        (∃ (b : Bus) (w : Word) (c : CommitUnit), s.considerQueue = { s with bus := b, nonce := w, commits := c })
          ∧ (s.considerQueue.bus.status = .idle → s.considerQueue.bus.flight = none → s.considerQueue.bus.queue = []))
    ∧ ∀ s : State, s.run = .running →
        (∀ r, s.offers r → exec r.row s = .next s.serve)
          ∧ ((∀ r, ¬s.offers r) → s.serve = s)
          ∧ ∀ r, ¬s.serve.offers r

/-! ### The Swath Path -/

/-- O30. R8, R31, R34, R35; SWATH TRUNCATED is raised behind the events of the metering (log entry 39). -/
def Obligations.TruncationEndsTheOpenSwath : Prop :=
  ∀ s : State,
    match s.swath.descriptor with
    | none => s.truncate = s ∧ s.truncationFrames = []
    | some d =>
      let u := s.handOver d
      s.truncate =
          { u with
            swath := { u.swath with descriptor := none }
            events := EventUnit.raise .swathTruncated 0 d.number u.events }
        ∧ s.truncationFrames =
          [⟨.swathClose, 0#8, leBytes 4 d.number.toNat,
            crc16 (3#8 :: 0#8 :: 4#8 :: 0#8 :: leBytes 4 d.number.toNat)⟩]

/-- O31. R17 to R20, R22, R23, R35, R49, R50, R162: the action of a slot's condition, the order of strictness, and what becomes of
a staging copy; and a SWATH OPEN with a valid descriptor (O33) and its two places, the park state ACTIVE. A swath that is open is
truncated first (O30); O32 says what the descriptor holds. A slot with no band is met in no run (log entry 29). -/
def Obligations.SwathOpenOpensTheSwath : Prop :=
  (∀ (t : Tables) (r : SlotRecord),
      actionFor t r =
        match r.state, r.band with
        | .empty, _ => .blank
        | .settling, _ => t.policy[0]
        | .identifying, _ => t.policy[0]
        | .authenticating, _ => t.policy[0]
        | .holdoff, _ => t.policy[0]
        | .genuine, band =>
          if t.settings[10] < r.pendingDebit then .blank
          else
            match band with
            | .normal => t.policy[1]
            | .low => t.policy[2]
            | .reserve => t.policy[3]
            | .out => t.policy[4]
            | .none => .blank
        | .suspect, band =>
          if t.settings[10] < r.pendingDebit then .blank
          else
            match band with
            | .normal => t.policy[5].stricter t.policy[1]
            | .low => t.policy[5].stricter t.policy[2]
            | .reserve => t.policy[5].stricter t.policy[3]
            | .out => t.policy[5].stricter t.policy[4]
            | .none => .blank
        | .foreign, _ => t.policy[6]
        | .misplaced, _ => t.policy[7]
        | .reused, _ => t.policy[8])
  ∧ ([Action.pass, .thin, .blank].map Action.strictness = [0, 1, 2]
      ∧ ∀ a b : Action,
          a.stricter b =
            match a, b with
            | .blank, _ => .blank
            | _, .blank => .blank
            | .thin, _ => .thin
            | _, .thin => .thin
            | .pass, .pass => .pass)
  ∧ (∀ (α : Type) (copy : Staging α) (active : α),
      promoted copy active =
          (match copy with
            | .none => active
            | .opened _ => active
            | .ready c => c)
        ∧ copy.afterOpening =
          match copy with
          | .none => .none
          | .opened c => .opened c
          | .ready _ => .none)
  ∧ (∀ copy : Staging (Vector CurvePoint 8),
      curveRejected copy = true ↔
        ∃ curve : Vector CurvePoint 8, copy = .ready curve
          ∧ ∃ k m : Fin 8, k.val + 1 = m.val ∧ curve[m].temperature ≤ curve[k].temperature)
  ∧ ∀ (f : RxFrame) (s : State), s.run = .running → accepted .swathOpen f = true → s.link.forward.length ≤ 2 →
    s.decoder.park = .active → descriptorValid f.payload = true →
      let u := s.frameArrives.truncate
      let rejected := curveRejected u.decoder.curveCopy
      let tables : Tables :=
        { u.tables with
          drop := promoted u.decoder.dropCopy u.tables.drop
          curve := if rejected then u.tables.curve else promoted u.decoder.curveCopy u.tables.curve
          lanes := promoted u.decoder.laneCopy u.tables.lanes
          thin := promoted u.decoder.thinCopy u.tables.thin
          policy := promoted u.decoder.policyCopy u.tables.policy }
      exec (.swathOpen f) s = .next
        (State.finish
          { u with
            tables := tables
            decoder :=
              { u.decoder with
                dropCopy := u.decoder.dropCopy.afterOpening
                curveCopy := u.decoder.curveCopy.afterOpening
                laneCopy := u.decoder.laneCopy.afterOpening
                thinCopy := u.decoder.thinCopy.afterOpening
                policyCopy := u.decoder.policyCopy.afterOpening }
            events := if rejected then EventUnit.raise .tableRejected 0 0#32 u.events else u.events
            swath :=
              { descriptor := some
                  { number := swathNumber f.payload
                    columns := openColumns f.payload
                    heads := Vector.ofFn fun h => headUse tables u.heads (openHeads f.payload) h
                    windows := (openWindows f.payload).filterMap (clipWindow (openColumns f.payload)) }
                refused := false
                taken := Vector.replicate 32 0
                drops := Vector.replicate 32 ⟨0, 0, 0⟩
                latched := u.slots.map (actionFor tables)
                lastNumber := swathNumber f.payload }
            link :=
              { u.link with
                forward :=
                  u.link.forward ++ s.frameArrives.truncationFrames
                    ++ [⟨.swathOpen, f.destination, f.payload, f.crc⟩] } })

/-- O32. R17, R18, R50: where a SWATH OPEN's fields stand; below the column count, the columns of the clipped windows are those of
the windows sent, no clipped window goes beyond it, and a head's use is the waveform set and the factor of the entry that names
it. -/
def Obligations.DescriptorHoldsWindowsAndHeads : Prop :=
  ∀ (t : Tables) (heads : Vector HeadRecord 4) (p : List Byte),
    let d : Descriptor :=
      { number := swathNumber p
        columns := openColumns p
        heads := Vector.ofFn fun h => headUse t heads (openHeads p) h
        windows := (openWindows p).filterMap (clipWindow (openColumns p)) }
    (swathNumber p = BitVec.ofNat 32 (leField p 0 4) ∧ openColumns p = leField p 4 2
        ∧ openHeads p =
          (List.range (byteAt p 6).toNat).map (fun i => ((byteAt p (8 + 2 * i)).toNat, (byteAt p (9 + 2 * i)).toNat))
        ∧ openWindows p =
          (List.range (byteAt p 7).toNat).map fun i =>
            (leField p (8 + 2 * (byteAt p 6).toNat + 4 * i) 2, leField p (8 + 2 * (byteAt p 6).toNat + 4 * i + 2) 2))
      ∧ (∀ column : Nat, d.isWindow column = true ↔ ∃ w ∈ d.windows, w.1 ≤ column ∧ column ≤ w.2)
      ∧ (∀ column < openColumns p,
        d.isWindow column = true ↔ ∃ w ∈ openWindows p, w.1 ≤ column ∧ column ≤ w.2)
      ∧ (∀ w ∈ d.windows, w.1 ≤ w.2 ∧ (0 < openColumns p → w.2 < openColumns p))
      ∧ (descriptorValid p = true → ∀ (h : Head) (wave : Fin 4),
          (h.val, wave.val) ∈ openHeads p →
            d.heads[h] = some ⟨wave, if heads[h].stale then t.settings[18] else curveFactor t.curve heads[h].tracked⟩)
      ∧ ∀ h : Head, (∀ e ∈ openHeads p, e.1 ≠ h.val) → d.heads[h] = none

/-- O33. R18, R21, R35, R41: which descriptors are valid, and the refusal of a SWATH OPEN. -/
def Obligations.RefusedSwathOpenIsWithheld : Prop :=
  (∀ p : List Byte,
      let heads := (byteAt p 6).toNat
      descriptorValid p = true ↔
        leField p 4 2 ≠ 0 ∧ (∀ i < heads, (byteAt p (9 + 2 * i)).toNat ≤ 3)
          ∧ ∀ i < heads, ∀ j < heads, i ≠ j → byteAt p (8 + 2 * i) ≠ byteAt p (8 + 2 * j))
  ∧ ∀ (f : RxFrame) (s : State), s.run = .running → accepted .swathOpen f = true → s.link.forward.length ≤ 2 →
    s.decoder.park ≠ .active ∨ descriptorValid f.payload = false →
      let u := s.frameArrives.truncate
      exec (.swathOpen f) s = .next
        (State.finish
          { u with
            swath := { u.swath with refused := true }
            events := EventUnit.raise .strayFire 0 (swathNumber f.payload) u.events
            link := { u.link with forward := u.link.forward ++ s.frameArrives.truncationFrames } })

/-- O34. R24, R41; log entry 30. -/
def Obligations.StrayFireIsWithheld : Prop :=
  ∀ (f : RxFrame) (s : State), s.run = .running → accepted .fire f = true → s.link.forward.length ≤ 3 →
    (∀ d, s.swath.descriptor = some d → ∀ h : Head, (byteAt f.payload 0).toNat = h.val →
      (byteAt f.payload 1).toNat ≤ 7 → d.heads[h] = none) →
      let u := s.frameArrives
      exec (.fire f) s = .next
        (State.sendNext
          (if u.swath.refused then u
          else { u with events := EventUnit.raise .strayFire 0 u.swath.lastNumber u.events }))

/-- O35. R24 to R30: where the drop codes of a FIRE frame stand; `kept` is the number of columns that O36's two limits keep, `out`
their codes as O37 forwards them. -/
def Obligations.FireIsGatedCountedAndForwarded : Prop :=
  ((∀ (p : List Byte) (j : Nat), fireColumn p j = (p.drop (5 + 128 * j)).take 128)
      ∧ (∀ column : List Byte,
          columnCodes column =
            column.flatMap fun b => [b.extractLsb' 0 2, b.extractLsb' 2 2, b.extractLsb' 4 2, b.extractLsb' 6 2])
      ∧ (∀ (g : BitVec 2 → BitVec 2) (b : Byte), columnCodes [mapCodes g b] = (columnCodes [b]).map g)
      ∧ ∀ (h : Head) (lane : Lane), (laneIndex h lane).val = 8 * h.val + lane.val)
  ∧ ∀ (f : RxFrame) (s : State) (d : Descriptor) (h : Head) (lane : Lane) (use : HeadUse),
    s.run = .running → accepted .fire f = true → s.link.forward.length ≤ 3 → s.swath.descriptor = some d →
    (byteAt f.payload 0).toNat = h.val → (byteAt f.payload 1).toNat = lane.val → d.heads[h] = some use →
      let u := s.frameArrives
      let i := laneIndex h lane
      let n := (byteAt f.payload 4).toNat
      let first := leField f.payload 2 2
      let kept := columnsKept n first d.columns u.swath.taken[i]
      let action := u.tables.lanes[i].map fun slot => u.swath.latched[slot]
      let received := (List.range kept).map (fireColumn f.payload)
      let out := (List.range kept).map fun j =>
        (fireColumn f.payload j).map (mapCodes (forwardCode u.tables action use.wave (d.isWindow (first + j))))
      let blanked := (List.range kept).any fun j =>
        (columnCodes (fireColumn f.payload j)).any
          (blankedUnmeterable u.tables action use.wave (d.isWindow (first + j)))
      let codes := columnCodes out.flatten
      let overrun := if kept < n then EventUnit.raise .columnOverrun 0 d.number u.events else u.events
      exec (.fire f) s = .next
        (State.sendNext
          (if kept = 0 then { u with events := overrun }
          else
            { u with
              events := if blanked then EventUnit.raise .blankedUnmeterable 0 d.number overrun else overrun
              swath :=
                { u.swath with
                  taken := u.swath.taken.set i.val (u.swath.taken[i] + kept)
                  drops :=
                    if u.tables.lanes[i].isSome then
                      u.swath.drops.set i.val
                        ⟨u.swath.drops[i].small + codes.count 1#2, u.swath.drops[i].medium + codes.count 2#2,
                          u.swath.drops[i].large + codes.count 3#2⟩
                    else u.swath.drops }
              link :=
                { u.link with
                  forward :=
                    u.link.forward
                      ++ [if kept = n ∧ out = received then ⟨.fire, f.destination, f.payload, f.crc⟩
                          else makeFrame .fire f.destination
                            (f.payload.take 4 ++ BitVec.ofNat 8 kept :: out.flatten)] } }))

/-- O36. R25: the columns below the column count, and of them the first N − T. They are the leading columns of the frame. -/
def Obligations.ColumnsKeptAreTheLeadingColumns : Prop :=
  ∀ n first columns taken : Nat,
    ((List.range n).filter fun j => decide (first + j < columns)).take (columns - taken)
      = List.range (columnsKept n first columns taken)

/-- O37. R23, R26 to R28, R53: how a code is gated, forwarded and found unmeterable; no code is raised. -/
def Obligations.GatingNeverRaisesACode : Prop :=
  ∀ (t : Tables) (w : Fin 4) (code : BitVec 2), thinInRange t.thin →
    (∀ action, gateCode t action w true code = code)
      ∧ gateCode t .pass w false code = code
      ∧ (∀ i : Fin 16, i.val = 4 * w.val + code.toNat → gateCode t .thin w false code = t.thin[i])
      ∧ gateCode t .blank w false code = 0#2
      ∧ (∀ i : Fin 12, i.val + 1 = 3 * w.val + code.toNat → code ≠ 0#2 → t.nominal w code = t.drop[i])
      ∧ ∀ (lane : Option Action) (window : Bool),
          forwardCode t lane w window code ≤ code
            ∧ forwardCode t lane w window code =
              (match lane with
                | none => 0#2
                | some action =>
                  if t.nominal w (gateCode t action w window code) = 0 then 0#2 else gateCode t action w window code)
            ∧ (blankedUnmeterable t lane w window code = true ↔
                code ≠ 0#2
                  ∧ match lane with
                    | none => True
                    | some action =>
                      gateCode t action w window code ≠ 0#2 ∧ t.nominal w (gateCode t action w window code) = 0)

/-- O38. R31, R32; log entry 18. -/
def Obligations.SwathCloseEndsTheSwath : Prop :=
  ∀ (f : RxFrame) (s : State), s.run = .running → accepted .swathClose f = true → s.link.forward.length ≤ 3 →
    let u := s.frameArrives
    exec (.swathClose f) s = .next
      (State.finish
        (match s.swath.descriptor with
          | some d =>
            { u.handOver d with
              swath := { (u.handOver d).swath with descriptor := none }
              link :=
                { (u.handOver d).link with
                  forward := (u.handOver d).link.forward ++ [⟨.swathClose, f.destination, f.payload, f.crc⟩] } }
          | none =>
            if u.swath.refused then { u with swath := { u.swath with refused := false } }
            else { u with events := EventUnit.raise .strayFire 0 u.swath.lastNumber u.events }))

/-! ### Temperature and metering -/

/-- O39. R49 to R51: on a curve whose temperatures rise, the factor lies between the smallest and the largest of the curve's, is
that of the point where the temperature is a point's, and is the interpolated one between two. -/
def Obligations.FactorLiesBetweenTheCurvesFactors : Prop :=
  (∀ curve : Vector CurvePoint 8,
      curveValid curve = true ↔ ∀ k m : Fin 8, k.val + 1 = m.val → curve[k].temperature < curve[m].temperature)
  ∧ ∀ (curve : Vector CurvePoint 8) (temperature : Int), curveValid curve = true →
    (∀ low high : Nat, (∀ k : Fin 8, low ≤ curve[k].factor ∧ curve[k].factor ≤ high) →
        low ≤ curveFactor curve temperature ∧ curveFactor curve temperature ≤ high)
      ∧ (∀ k : Fin 8, temperature = curve[k].temperature → curveFactor curve temperature = curve[k].factor)
      ∧ (temperature ≤ curve[0].temperature → curveFactor curve temperature = curve[0].factor)
      ∧ (curve[7].temperature ≤ temperature → curveFactor curve temperature = curve[7].factor)
      ∧ ∀ k m : Fin 8, k.val + 1 = m.val → curve[k].temperature ≤ temperature → temperature < curve[m].temperature →
          (curveFactor curve temperature : Int) =
            curve[k].factor
              + (((curve[m].factor : Int) - curve[k].factor) * (temperature - curve[k].temperature)).tdiv
                  (curve[m].temperature - curve[k].temperature)

/-- O40. R37, R54 to R56, R59, R63 to R68: the band of a slot's record (log entry 29 for one with no L or no binding); and what a
closing record leaves of each slot's account. A slot whose band moves raises the event of the band it enters, the changes of its
debit and of its band tighten its latched action within an open swath, and nothing else changes. -/
def Obligations.MeteringKeepsEverySubUnit : Prop :=
  (∀ (t : Tables) (r : SlotRecord),
      let estimate := r.level.getD 0 - r.pendingDebit
      currentBand t r =
        if r.state = .genuine ∨ r.state = .suspect then
          match r.binding with
          | some b =>
            let k := t.classes[b.classIndex]
            let capacity := min b.identity.capacity k.ceiling
            if estimate = 0 then .out
            else if estimate ≤ capacity * k.reserve / 1000 then .reserve
            else if estimate ≤ capacity * k.low / 1000 then .low
            else .normal
          | none => if estimate = 0 then .out else .normal
        else .none)
  ∧ (∀ (s : State) (record : List RecordLine),
      let t := s.meterRecord record
      t = { s with
            residue := t.residue
            slots := t.slots
            swath := { s.swath with latched := t.swath.latched }
            events := t.events }
        ∧ t.events.enabled = s.events.enabled ∧ t.events.noticesOn = s.events.noticesOn
        ∧ ∀ (k : EventKind) (i : Nat),
            t.events.holds k i = true ↔
              s.events.holds k i = true
                ∨ (k ∈ s.events.enabled
                    ∧ ∃ n : Slot, i = n.val ∧ (t.slot n).band ≠ (s.slot n).band
                      ∧ ((k = .bandLow ∧ (t.slot n).band = .low) ∨ (k = .bandReserve ∧ (t.slot n).band = .reserve)
                          ∨ (k = .bandOut ∧ (t.slot n).band = .out))))
  ∧ ∀ (s : State) (record : List RecordLine) (n : Slot),
    let t := s.meterRecord record
    let lines := record.filter fun l => l.slot == n
    let volume :=
      (lines.map fun l =>
        l.factor *
          (l.count.small * s.tables.nominal l.wave 1#2 + l.count.medium * s.tables.nominal l.wave 2#2
            + l.count.large * s.tables.nominal l.wave 3#2)).sum
    let debit := (s.residue[n] + volume) / 10240000
    let debited : SlotRecord :=
      { s.slot n with pendingDebit := min ((s.slot n).pendingDebit + debit) 4294967295 }
    if lines = [] ∨ (s.slot n).state = .empty then
      t.residue[n] = s.residue[n] ∧ t.slot n = s.slot n ∧ t.swath.latched[n] = s.swath.latched[n]
    else
      t.residue[n] + 10240000 * debit = s.residue[n] + volume ∧ t.residue[n] < 10240000
        ∧ t.slot n = { debited with band := currentBand s.tables debited }
        ∧ t.swath.latched[n] =
          if s.swath.descriptor.isSome then
            (s.swath.latched[n].stricter (actionFor s.tables debited)).stricter (actionFor s.tables (t.slot n))
          else s.swath.latched[n]

/-- O41. R33, R68, R113, R118, R120: the lines of a closing record; and what its handing over asks for, slot by slot, on what the
metering leaves (O40), which acts with the swath still open (log entry 18). -/
def Obligations.HandOverAsksForCommitsAndChallenges : Prop :=
  (∀ (d : Descriptor) (t : Tables) (drops : Vector DropCount 32),
      closingRecord d t drops =
        (List.finRange 4).flatMap fun h : Head =>
          (List.finRange 8).filterMap fun lane : Lane =>
            match d.heads[h], t.lanes[laneIndex h lane] with
            | some use, some n => some ⟨h, lane, n, use.wave, use.factor, drops[laneIndex h lane]⟩
            | _, _ => none)
  ∧ ∀ (s : State) (d : Descriptor) (n : Slot),
    let m := s.meterRecord (closingRecord d s.tables s.swath.drops)
    let t := s.handOver d
    let wanted :=
      (m.slot n).state.isProven && decide (0 < (m.slot n).pendingDebit)
        && (decide (m.tables.settings[9] ≤ (m.slot n).pendingDebit) || (m.slot n).band == .reserve || (m.slot n).band == .out)
    ((t.slot n).state = (m.slot n).state ∧ (t.slot n).pendingDebit = (m.slot n).pendingDebit
        ∧ (t.slot n).level = (m.slot n).level ∧ (t.slot n).band = (m.slot n).band)
      ∧ t.commit n =
        { s.commit n with
          phase := if wanted = true ∧ (s.commit n).phase = .idle then .waiting else (s.commit n).phase }
      ∧ (⟨n, .debit⟩ ∈ t.bus.queue ↔
          ⟨n, .debit⟩ ∈ s.bus.queue
            ∨ (wanted = true ∧ ((s.commit n).phase = .idle ∨ (s.commit n).phase = .waiting)))
      ∧ (t.slot n).countdown = (if (m.slot n).state.isProven then (m.slot n).countdown - 1 else (m.slot n).countdown)
      ∧ (⟨n, .challenge⟩ ∈ t.bus.queue ↔
          ⟨n, .challenge⟩ ∈ s.bus.queue ∨ ((m.slot n).state.isProven = true ∧ (m.slot n).countdown = 1))
      ∧ (t.bus.flight = s.bus.flight ∧ t.known = s.known ∧ t.tables = s.tables ∧ t.nonce = s.nonce ∧ t.residue = m.residue
          ∧ t.events = m.events ∧ t.swath = m.swath ∧ t.link = s.link ∧ t.decoder = s.decoder)

/-- O42. R37, R63 to R67, R113: a change of state recomputes the band, raises the event of a band entered, ends the countdown of
a slot that leaves GENUINE and SUSPECT, and tightens the latched action within an open swath, by the table and the order that O31
spells (log entry 29 for a slot with no L or no binding). -/
def Obligations.StateChangeRecomputesTheBand : Prop :=
  (∀ st : SlotState, st.isProven = true ↔ st = .genuine ∨ st = .suspect)
  ∧ ∀ (s : State) (n : Slot) (st : SlotState),
    let r := s.slot n
    let estimate := r.level.getD 0 - r.pendingDebit
    let band : Band :=
      if st = .genuine ∨ st = .suspect then
        match r.binding with
        | some b =>
          let k := s.tables.classes[b.classIndex]
          let capacity := min b.identity.capacity k.ceiling
          if estimate = 0 then .out
          else if estimate ≤ capacity * k.reserve / 1000 then .reserve
          else if estimate ≤ capacity * k.low / 1000 then .low
          else .normal
        | none => if estimate = 0 then .out else .normal
      else .none
    let countdown := if r.state.isProven && !st.isProven then 0 else r.countdown
    let r1 : SlotRecord := { r with state := st, band := band, countdown := countdown }
    s.changeState n st =
      { s with
        slots := s.slots.set n.val r1
        events :=
          if band = r.band then s.events
          else
            match band with
            | .low => EventUnit.raise .bandLow n.val 0#32 s.events
            | .reserve => EventUnit.raise .bandReserve n.val 0#32 s.events
            | .out => EventUnit.raise .bandOut n.val 0#32 s.events
            | _ => s.events
        swath :=
          if s.swath.descriptor.isSome then
            { s.swath with
              latched := s.swath.latched.set n.val (s.swath.latched[n].stricter (actionFor s.tables r1)) }
          else s.swath }

/-! ### Presence and the supply bus -/

/-- O43. R62, R73 to R76, R92; a line that already reads so changes nothing (log entry 2), and an arrival of a slot that is not
EMPTY, which O16 rules out, moves the watch alone. -/
def Obligations.PresenceLinesMoveTheWatches : Prop :=
  (∀ (n : Slot) (s : State), s.run = .running → s.present[n] = false → s.watch n = .quiet → (s.slot n).state = .empty →
    ∃ t, exec (.lineGoesPresent n) s = .next t
      ∧ t.present = s.present.set n.val true
      ∧ t.bus = { s.bus with watches := s.bus.watches.set n.val (.arriving (some s.tables.settings[19])) }
      ∧ (t.slot n).state = .settling ∧ (∀ m, m ≠ n → t.slot m = s.slot m)
      ∧ (EventKind.inserted ∈ s.events.enabled → t.events.holds .inserted n.val = true)
      ∧ (∀ i : LaneIndex, t.swath.drops[i] =
          if s.swath.descriptor.isSome = true ∧ s.tables.lanes[i] = some n then ⟨0, 0, 0⟩ else s.swath.drops[i])
      ∧ t.swath.taken = s.swath.taken ∧ t.swath.descriptor = s.swath.descriptor
      ∧ t.residue = s.residue ∧ t.commits = s.commits ∧ t.known = s.known ∧ t.heads = s.heads ∧ t.decoder = s.decoder
      ∧ t.tables = s.tables ∧ t.nonce = s.nonce ∧ t.store = s.store)
    ∧ (∀ (n : Slot) (s : State), s.run = .running → s.present[n] = false →
        s.watch n ≠ .quiet ∨ (s.slot n).state ≠ .empty →
        exec (.lineGoesPresent n) s = .next
          (State.sendNext
            { s with
              present := s.present.set n.val true
              bus :=
                { s.bus with
                  watches :=
                    match s.watch n with
                    | .quiet => s.bus.watches.set n.val (.arriving (some s.tables.settings[19]))
                    | .leaving .arriving _ => s.bus.watches.set n.val (.arriving (some s.tables.settings[19]))
                    | .leaving .seated _ => s.bus.watches.set n.val .seated
                    | _ => s.bus.watches } }))
    ∧ (∀ (n : Slot) (s : State), s.run = .running → s.present[n] = true →
        exec (.lineGoesPresent n) s = .next s
          ∧ exec (.lineGoesAbsent n) s = .next
            { s with
              present := s.present.set n.val false
              bus :=
                { s.bus with
                  watches :=
                    match s.watch n with
                    | .arriving _ => s.bus.watches.set n.val (.leaving .arriving (some s.tables.settings[20]))
                    | .seated => s.bus.watches.set n.val (.leaving .seated (some s.tables.settings[20]))
                    | _ => s.bus.watches } })
    ∧ ∀ (n : Slot) (s : State), s.run = .running → s.present[n] = false → exec (.lineGoesAbsent n) s = .next s

/-- O44. R75, R80, R93, R110: a seating and the expiry of a hold-off each bring the slot to IDENTIFYING with an IDENTIFY queued
or, if the line was free, begun. -/
def Obligations.SeatingAndHoldoffExpiryAskForAnIdentity : Prop :=
  (∀ (n : Slot) (s : State) (settle : Nat), s.run = .running → s.watch n = .arriving (some settle) →
    (s.slot n).state = .settling →
      ∃ t, exec (.seating n) s = .next t
        ∧ t.watch n = .seated ∧ (∀ m, m ≠ n → t.watch m = s.watch m)
        ∧ t.slot n =
          { s.slot n with state := .identifying, allowance := s.tables.settings[11], attempts := 0, band := .none }
        ∧ (∀ m, m ≠ n → t.slot m = s.slot m)
        ∧ (⟨n, .identify⟩ ∈ t.bus.queue ∨ ∃ f, t.bus.flight = some f ∧ f.slot = n ∧ f.kind = .identify)
        ∧ t.present = s.present ∧ t.residue = s.residue ∧ t.heads = s.heads ∧ t.tables = s.tables
        ∧ t.swath.taken = s.swath.taken ∧ t.swath.drops = s.swath.drops)
    ∧ ∀ (n : Slot) (s : State), s.run = .running → (s.slot n).state = .holdoff → (s.slot n).holdoff.isSome = true →
      ∃ t, exec (.holdoffExpiry n) s = .next t
        ∧ t.slot n =
          { s.slot n with
            state := .identifying
            allowance := if (s.slot n).proven then s.tables.settings[12] else s.tables.settings[11]
            attempts := 0
            holdoff := none
            band := .none }
        ∧ (∀ m, m ≠ n → t.slot m = s.slot m)
        ∧ (⟨n, .identify⟩ ∈ t.bus.queue ∨ ∃ f, t.bus.flight = some f ∧ f.slot = n ∧ f.kind = .identify)
        ∧ t.bus.watches = s.bus.watches ∧ t.present = s.present ∧ t.residue = s.residue ∧ t.heads = s.heads
        ∧ t.tables = s.tables ∧ t.swath.taken = s.swath.taken ∧ t.swath.drops = s.swath.drops

/-- O45. R37, R55, R56, R58 to R61, R76, R88, R94, R95, R128, R141: the interim metering of a slot, which moves no band (log entry
20); and a removal, which empties the slot and carries what was known of its cartridge into its entry. `m` is the state after the
interim metering; the entries are spoken of where stage 1 of parking does not end in the same event. -/
def Obligations.RemovalCarriesTheAccountIntoTheList : Prop :=
  (∀ (n : Slot) (s : State),
      s.interimMetering n =
        match s.swath.descriptor with
        | none => s
        | some d =>
          let lines := (closingRecord d s.tables s.swath.drops).filter fun l => l.slot == n
          let volume :=
            (lines.map fun l =>
              l.factor *
                (l.count.small * s.tables.nominal l.wave 1#2 + l.count.medium * s.tables.nominal l.wave 2#2
                  + l.count.large * s.tables.nominal l.wave 3#2)).sum
          let total := s.residue[n] + volume
          let r : SlotRecord :=
            { s.slot n with pendingDebit := min ((s.slot n).pendingDebit + total / 10240000) 4294967295 }
          { s with
            residue := s.residue.set n.val (total % 10240000)
            slots := s.slots.set n.val r
            swath :=
              { s.swath with
                drops := Vector.ofFn fun i => if s.tables.lanes[i] = some n then ⟨0, 0, 0⟩ else s.swath.drops[i]
                latched := s.swath.latched.set n.val (s.swath.latched[n].stricter (actionFor s.tables r)) } })
  ∧ ∀ (n : Slot) (s : State) (before : Before) (settle : Nat), s.run = .running → s.watch n = .leaving before (some settle) →
    (s.slot n).state ≠ .empty →
      let m := s.interimMetering n
      ∃ t, exec (.removal n) s = .next t
        ∧ t.watch n = .quiet ∧ t.slot n = SlotRecord.fresh ∧ t.residue[n] = 0
        ∧ (∀ k, k ≠ n → t.slot k = s.slot k ∧ t.watch k = s.watch k ∧ t.residue[k] = s.residue[k])
        ∧ (∀ q ∈ t.bus.queue, q.slot ≠ n)
        ∧ (∀ f, s.bus.flight = some f → t.bus.flight = some (if f.slot = n then { f with slotLeft := true } else f))
        ∧ (EventKind.removed ∈ s.events.enabled → t.events.holds .removed n.val = true)
        ∧ (∀ b, (s.slot n).binding = some b →
            t.commit n = ⟨.idle, false⟩
              ∧ (∀ d nonce pre serial k, (s.commit n).phase = .inFlight d nonce pre serial k →
                  t.commits.orphan = some ⟨n, d, nonce, pre, serial, k⟩)
              ∧ (s.decoder.park ≠ .parking .commits →
                  t.known = s.known.map fun e =>
                    if e.serial = b.identity.serial then
                      { e with
                        lastLevel := (s.slot n).level.or e.lastLevel
                        unsettled := min (e.carried.getD 0 + (m.slot n).pendingDebit) 4294967295
                        inDoubt :=
                          match (s.commit n).phase with
                          | .inFlight d _ pre _ _ => some ⟨d, pre⟩
                          | .inDoubt d pre => some ⟨d, pre⟩
                          | _ => e.inDoubt
                        carried := none
                        refurbished := false
                        residence := none }
                    else e))
        ∧ ((s.slot n).binding = none → s.decoder.park ≠ .parking .commits → t.known = s.known)
        ∧ t.present = s.present ∧ t.heads = s.heads ∧ t.tables = s.tables
        ∧ t.swath =
          { m.swath with
            latched :=
              if s.swath.descriptor.isSome then s.swath.latched.set n.val .blank else s.swath.latched }

/-- O46. R81: DEBITs before CHALLENGEs before IDENTIFYs, and within one kind the oldest, which stands first in the queue. -/
def Obligations.RequestsAreTakenByKindThenAge : Prop :=
  ∀ (q : List BusRequest) (r : BusRequest),
    let rank : BusKind → Nat := fun k =>
      match k with
      | .debit => 0
      | .challenge => 1
      | .identify => 2
    nextRequest q = some r ↔
      ∃ older newer, q = older ++ r :: newer ∧ (∀ x ∈ older, rank r.kind < rank x.kind)
        ∧ ∀ x ∈ newer, rank r.kind ≤ rank x.kind

/-- O47. R72, R79, R82, R102, R121: what begins when the line is free and a request waits, outside stage 1 of parking. -/
def Obligations.TransactionBeginsByItsKind : Prop :=
  ∀ (n : Slot) (k : BusKind) (s : State), s.run = .running → s.bus.status = .idle → s.bus.flight = none →
    s.decoder.park ≠ .parking .commits →
    nextRequest s.bus.queue = some ⟨n, k⟩ →
      let begun : State → Word → Nat → List Byte → State := fun u nonce amount body =>
        { u with
          bus :=
            { s.bus with
              queue := s.bus.queue.erase ⟨n, k⟩
              status := .busy
              flight := some
                { slot := n
                  kind := k
                  nonce := nonce
                  amount := amount
                  stage := if s.busLow then .waiting else .sending
                  packet := body ++ [crc8 body]
                  slotLeft := false } } }
      let address : Byte := BitVec.ofNat 8 (n.val + 1)
      let nonce := s.nonce + 2654435769#32
      exec .transactionBegin s = .next
        (match k with
          | .identify => State.sendNext (begun s 0#32 0 [address, 1#8])
          | .challenge => State.sendNext (begun { s with nonce := nonce } nonce 0 (address :: 2#8 :: leBytes 4 nonce.toNat))
          | .debit =>
            let r := s.slot n
            let d :=
              if r.state.isProven = true ∧ (s.commit n).phase = .waiting then min r.pendingDebit (r.level.getD 0) else 0
            if d = 0 then
              State.finish
                { s with
                  bus := { s.bus with queue := s.bus.queue.erase ⟨n, k⟩ }
                  commits :=
                    { s.commits with
                      records := s.commits.records.set n.val
                        ⟨if (s.commit n).phase = .waiting then .idle else (s.commit n).phase, false⟩ } }
            else
              State.sendNext
                (begun
                  { s with
                    nonce := nonce
                    commits :=
                      match r.binding with
                      | some b =>
                        { s.commits with
                          records := s.commits.records.set n.val
                            { s.commit n with
                              phase := .inFlight d nonce (r.level.getD 0) b.identity.serial b.classIndex } }
                      | none => s.commits }
                  nonce d (address :: 3#8 :: (leBytes 4 nonce.toNat ++ leBytes 4 d))))

/-- O48. R79, R82 to R88: the CRC-8; to which unit an outcome is delivered (O50 to O53 say what each then does); the line, the end
of a transaction, and the fault; a SUPPLY_REPLY with fewer bytes than the kind calls for changes nothing, and bytes beyond are not
read (log entry 33). After a TIMEOUT the end of the command takes the next request, be the line low or high (log entry 35).
BUS STUCK is raised before the outcome of the transaction that the fault ends is delivered (log entry 38). -/
def Obligations.TransactionsEndAndFaultsPass : Prop :=
  (crc8 [] = 0x00#8
      ∧ (∀ (bs : List Byte) (b : Byte),
          crc8 (bs ++ [b]) =
            (List.range 8).foldl (fun c _ => if c.getLsbD 7 then (c <<< 1) ^^^ 0x07#8 else c <<< 1) (crc8 bs ^^^ b))
      ∧ crc8 [0x31#8, 0x32#8, 0x33#8, 0x34#8, 0x35#8, 0x36#8, 0x37#8, 0x38#8, 0x39#8] = 0xF4#8)
  ∧ (∀ (s : State) (f : Flight) (outcome : BusOutcome),
      s.deliver f outcome =
        match f.kind with
        | .debit => s.debitOutcome f.slot outcome
        | .identify => if f.slotLeft then s else s.identifyOutcome f.slot outcome
        | .challenge => if f.slotLeft then s else s.challengeOutcome f.slot f.nonce outcome)
  ∧ ∀ s : State, s.run = .running →
    let ended : State → State := fun u =>
      { u with bus := { u.bus with flight := none, status := if u.bus.status = .fault then .fault else .idle } }
    let stuck : State :=
      { s with
        bus := { s.bus with status := .fault, lowTiming := false, releaseTimer := false }
        events := EventUnit.raise .busStuck 0 0#32 s.events }
    (∀ f, s.bus.flight = some f → f.stage = .sending →
        exec .commandSent s = .next { s with bus := { s.bus with flight := some { f with stage := .awaiting } } })
      ∧ (∀ f (bytes : List Byte), s.bus.flight = some f → f.stage = .awaiting →
          (if f.kind = .identify then 13 else 9) ≤ bytes.length →
            let reply := bytes.take (if f.kind = .identify then 13 else 9)
            exec (.supplyReply bytes) s = .next
              (State.finish
                ((ended s).deliver f
                  (if reply.getLast? = some (crc8 reply.dropLast) then .replied reply.dropLast else .timeout))))
      ∧ (∀ f (bytes : List Byte), s.bus.flight = some f → f.stage = .awaiting →
          bytes.length < (if f.kind = .identify then 13 else 9) → exec (.supplyReply bytes) s = .next s)
      ∧ (∀ f, s.bus.flight = some f → f.stage = .awaiting →
          exec .responseTimeout s = .next ((ended s).deliver f .timeout).finish)
      ∧ (s.busLow = true → s.bus.lowTiming = true → s.bus.status ≠ .fault →
          exec .busStuck s = .next
            (State.sendNext
              (State.endStage1
                (match s.bus.flight with
                  | some f => (ended stuck).deliver f .busFault
                  | none => stuck))))
      ∧ (s.bus.status = .fault → s.bus.releaseTimer = true →
          exec .faultEnd s = .next (State.finish { s with bus := { s.bus with status := .idle, releaseTimer := false } }))
      ∧ (s.busLow = true →
          exec .busLineReleased s = .next
            { s with
              busLow := false
              bus :=
                { s.bus with
                  lowTiming := false
                  releaseTimer := if s.bus.status = .fault then true else s.bus.releaseTimer
                  flight := s.bus.flight.map fun f => if f.stage = .waiting then { f with stage := .sending } else f } })
      ∧ (s.busLow = false →
          exec .busLinePulledLow s = .next
            { s with busLow := true, bus := { s.bus with lowTiming := true, releaseTimer := false } })

/-! ### Authentication and debits -/

/-- O49. R103. -/
def Obligations.TagFollowsItsFiveRounds : Prop :=
  (∀ (k : Key) (m0 m1 m2 m3 : Word),
    tagOf k m0 m1 m2 m3 =
      ((((((((k.k0 ^^^ m0).rotateLeft 7 + k.k1) ^^^ m1).rotateLeft 7 + k.k2) ^^^ m2).rotateLeft 7 + k.k3) ^^^ m3).rotateLeft 7
        + k.k1) ^^^ k.k0.rotateLeft 13)
    ∧ tagOf ⟨1#32, 0#32, 0#32, 0#32⟩ 0#32 0#32 0#32 0#32 = 0x10002000#32
    ∧ (∀ (t : Tables) (b : Binding) (nonce : Word) (level : Nat),
        challengeTag t b nonce level =
          tagOf t.keys[t.classes[b.classIndex].keyIndex] nonce b.identity.serial (BitVec.ofNat 32 level)
            (BitVec.ofNat 32 (b.identity.generation.toNat * 65536 + b.identity.product.toNat)))
    ∧ ∀ (t : Tables) (k : Fin 16) (nonce serial : Word) (newLevel amount : Nat),
        debitTag t k nonce serial newLevel amount =
          tagOf t.keys[t.classes[k].keyIndex] nonce serial (BitVec.ofNat 32 newLevel) (BitVec.ofNat 32 amount)

/-- O50. R97 to R101, R108, R135, R137 to R140, R148, R151: what an identification makes of a slot in IDENTIFYING that is not bound, and a
re-identification of one that is; an outcome for a slot in any other state is discarded. `made` is the cartridge's entry as its
binding leaves it. -/
def Obligations.IdentificationBindsOrRejects : Prop :=
  (∀ (s : State) (n : Slot) (outcome : BusOutcome), (s.slot n).state ≠ .identifying → s.identifyOutcome n outcome = s)
  ∧ ∀ (s : State) (n : Slot) (fields : List Byte), (s.slot n).state = .identifying →
    let id : Identity :=
      { serial := BitVec.ofNat 32 (leField fields 0 4)
        product := BitVec.ofNat 16 (leField fields 4 2)
        colours := byteAt fields 6
        generation := byteAt fields 7
        capacity := leField fields 8 4 }
    let matchesClass : Fin 16 → Prop := fun k =>
      s.tables.classes[k].valid = true ∧ (id.product ^^^ s.tables.classes[k].code) &&& ~~~s.tables.classes[k].mask = 0#16
    let elsewhere := ∃ e ∈ s.known, e.serial = id.serial ∧ ∃ m, m ≠ n ∧ e.residence = some m
    let t := s.identifyOutcome n (.replied fields)
    let raised : EventKind → Prop := fun k => k ∈ s.events.enabled → t.events.holds k n.val = true
    ((s.slot n).binding = none →
      let found := s.entry id.serial
      let reused := ∃ e, found = some e ∧ e.exhausted = true ∧ id.generation.toNat ≤ e.generation.toNat
      (t.slot n).attempts = 0 ∧ (t.slot n).allowance = (s.slot n).allowance
        ∧ (t.slot n).pendingDebit = (s.slot n).pendingDebit ∧ t.tables = s.tables ∧ t.bus.flight = s.bus.flight
        ∧ t.commits = s.commits ∧ t.nonce = s.nonce
        ∧ (∀ m, m ≠ n → t.slot m = s.slot m ∧ t.residue[m] = s.residue[m])
        ∧ ((∀ k, ¬matchesClass k) ∨ elsewhere →
            (t.slot n).state = .foreign ∧ (t.slot n).binding = none ∧ t.known = s.known ∧ t.bus = s.bus
              ∧ raised .rejected)
        ∧ ∀ k : Fin 16, matchesClass k → (∀ j < k, ¬matchesClass j) → ¬elsewhere →
            let generationWeight : Nat :=
              match found with
              | none => 0
              | some e =>
                if e.exhausted = true then
                  if id.generation.toNat ≤ e.generation.toNat then s.tables.settings[6] else 0
                else if id.generation.toNat < e.generation.toNat then s.tables.settings[5] else 0
            let capacityWeight : Nat := if s.tables.classes[k].ceiling < id.capacity then s.tables.settings[4] else 0
            let old : Entry :=
              found.getD
                { serial := id.serial, product := id.product, generation := id.generation, lastLevel := none,
                  unsettled := 0, inDoubt := none, count := 0, exhausted := false, suspect := false, residence := none,
                  carried := none, refurbished := false }
            let count :=
              if generationWeight + capacityWeight = 0 then old.count
              else min (old.count + generationWeight + capacityWeight) 255
            let made : Entry :=
              { old with
                serial := id.serial
                product := id.product
                count := count
                suspect := old.suspect || decide (s.tables.settings[0] ≤ count)
                residence := some n
                carried := some old.unsettled
                refurbished := old.exhausted && decide (old.generation.toNat < id.generation.toNat) }
            (t.slot n).binding = some ⟨id, k⟩ ∧ (t.slot n).level = none ∧ (t.slot n).proven = false ∧ t.residue[n] = 0
              ∧ t.known =
                made :: (if found.isSome then s.known.filter fun e => e.serial ≠ id.serial else makeRoom s.known)
              ∧ (made.suspect = true → raised .refillWarning)
              ∧ (if id.colours &&& s.tables.classes[k].colours &&& s.tables.sockets[n].colours = 0#8 then
                  (t.slot n).state = .misplaced ∧ t.bus = s.bus ∧ raised .rejected
                else if reused then (t.slot n).state = .reused ∧ t.bus = s.bus ∧ raised .rejected
                else (t.slot n).state = .authenticating ∧ ⟨n, .challenge⟩ ∈ t.bus.queue))
      ∧ ∀ b : Binding, (s.slot n).binding = some b →
          if id = b.identity then
            t.slot n = { s.slot n with state := .authenticating, attempts := 0, band := .none }
              ∧ ⟨n, .challenge⟩ ∈ t.bus.queue ∧ (∀ m, m ≠ n → t.slot m = s.slot m)
              ∧ t.known = s.known ∧ t.residue = s.residue ∧ t.commits = s.commits ∧ t.tables = s.tables
              ∧ t.events = s.events ∧ t.bus.flight = s.bus.flight ∧ t.nonce = s.nonce
          else t = s.fail n .identify

/-- O51. R95, R106 to R109, R111, R112, R128, R141: a BUS FAULT costs nothing; a failure is retried until the allowance is used up,
and then the slot is held off, or gives up in LIMITED mode at the round limit: a bound slot's account goes into its entry. `m` is
the state after the interim metering that O45 spells (log entry 20). What else the slot keeps is log entry 22's. A CHALLENGE outcome for a slot in any other state is discarded (O50 says the
same of an IDENTIFY's); and how a CHALLENGE or another transaction is asked for. -/
def Obligations.FailuresAreRetriedThenHeldOff : Prop :=
  (∀ (s : State) (n : Slot) (k : BusKind),
      let placed : State → State := fun v =>
        if ⟨n, k⟩ ∈ v.bus.queue then v else { v with bus := { v.bus with queue := v.bus.queue ++ [⟨n, k⟩] } }
      s.busPlace n k = placed s
        ∧ (k = .challenge →
            s.askChallenge n =
              if (s.slot n).state.isProven = true then
                if 0 < (s.slot n).attempts ∨ ⟨n, .challenge⟩ ∈ s.bus.queue
                    ∨ (∃ f ∈ s.bus.flight, f.slot = n ∧ f.kind = .challenge) then placed s
                else
                  placed
                    { s with
                      slots := s.slots.set n.val { s.slot n with allowance := s.tables.settings[12], attempts := 0 } }
              else if (s.slot n).state = .authenticating then placed s
              else s))
  ∧ (∀ (s : State) (n : Slot) (nonce : Word) (outcome : BusOutcome),
      (s.slot n).state ≠ .authenticating → (s.slot n).state ≠ .genuine → (s.slot n).state ≠ .suspect →
        s.challengeOutcome n nonce outcome = s)
  ∧ ∀ (s : State) (n : Slot),
    ((s.slot n).state = .identifying →
        s.identifyOutcome n .timeout = s.fail n .identify
          ∧ s.identifyOutcome n .busFault = s.busPlace n .identify)
      ∧ ((s.slot n).state = .authenticating ∨ (s.slot n).state = .genuine ∨ (s.slot n).state = .suspect →
          ∀ nonce, s.challengeOutcome n nonce .timeout = s.fail n .challenge
            ∧ s.challengeOutcome n nonce .busFault = s.askChallenge n)
      ∧ ∀ k : BusKind,
          let r := s.slot n
          let t := s.fail n k
          let multiplier : Nat → Nat := fun round => if round ≤ 1 then 1 else if round = 2 then 2 else if round = 3 then 4 else 8
          let round := min (r.round + 1) 255
          let m := s.interimMetering n
          let countdown := if r.state.isProven then 0 else r.countdown
          let tightened :=
            (∀ j, j ≠ n → t.swath.latched[j] = s.swath.latched[j])
              ∧ if s.swath.descriptor.isSome then
                  s.swath.latched[n].strictness ≤ t.swath.latched[n].strictness
                    ∧ (actionFor s.tables (t.slot n)).strictness ≤ t.swath.latched[n].strictness
                else t.swath.latched[n] = s.swath.latched[n]
          if r.attempts + 1 < r.allowance then
            t.slot n = { r with attempts := r.attempts + 1 }
              ∧ (k ≠ .challenge ∨ r.state.isProven = true ∨ r.state = .authenticating → ⟨n, k⟩ ∈ t.bus.queue)
              ∧ t.events = s.events ∧ t.known = s.known ∧ t.swath = s.swath
          else if s.tables.settings[15] = 0 ∧ s.tables.settings[14] ≤ r.round then
            (EventKind.rejected ∈ s.events.enabled → t.events.holds .rejected n.val = true)
              ∧ (∀ j, j ≠ n → t.slot j = s.slot j) ∧ t.bus = s.bus ∧ tightened
              ∧ t.swath =
                { (if r.binding.isSome then m.swath else s.swath) with latched := t.swath.latched }
              ∧ match r.binding with
                | none =>
                  t.slot n =
                      { r with state := .foreign, attempts := r.attempts + 1, countdown := countdown, band := .none }
                    ∧ t.known = s.known ∧ t.residue = s.residue ∧ t.commits = s.commits
                | some b =>
                  t.slot n =
                      { r with
                        state := .foreign
                        binding := none
                        proven := false
                        attempts := r.attempts + 1
                        countdown := countdown
                        level := none
                        pendingDebit := 0
                        band := .none }
                    ∧ t.residue[n] = 0 ∧ t.commit n = ⟨.idle, false⟩
                    ∧ t.commits.orphan =
                      (match (s.commit n).phase with
                        | .inFlight d nonce pre serial k => some ⟨n, d, nonce, pre, serial, k⟩
                        | _ => s.commits.orphan)
                    ∧ t.known = s.known.map fun e =>
                        if e.serial = b.identity.serial then
                          { e with
                            lastLevel := r.level.or e.lastLevel
                            unsettled := min (e.carried.getD 0 + (m.slot n).pendingDebit) 4294967295
                            inDoubt :=
                              match (s.commit n).phase with
                              | .inFlight d _ pre _ _ => some ⟨d, pre⟩
                              | .inDoubt d pre => some ⟨d, pre⟩
                              | _ => e.inDoubt
                            carried := none
                            refurbished := false
                            residence := none }
                        else e
          else
            t.slot n =
              { r with
                state := .holdoff
                round := round
                attempts := 0
                countdown := 0
                holdoff := some (s.tables.settings[13] * multiplier round)
                band := .none }
              ∧ (EventKind.holdoff ∈ s.events.enabled → t.events.holds .holdoff n.val = true)
              ∧ t.known = s.known ∧ t.bus = s.bus ∧ (∀ j, j ≠ n → t.slot j = s.slot j) ∧ tightened
              ∧ t.swath = { s.swath with latched := t.swath.latched }

/-- O52. R37, R67, R68, R104, R105, R107, R119, R120, R127, R130, R143 to R149, R151, R152: a challenge of a slot in AUTHENTICATING, GENUINE or
SUSPECT, whose mark agrees with its state (O14, O17). In R105's order: a debit in doubt, the slot's or its entry's, is resolved (the
values with 1); the refurbishment is accepted, or the level `p` judged against the expected `x`, and the carried debit loaded (the
values with 2); the count and the mark are settled; and the commits asked for. A band that is entered raises its event, and a
change of the slot's state, band or debit tightens its latched action within an open swath (log entry 27 on when the band is
recomputed). First, how a weight is added: REFILL WARNING is raised behind the events of the move to SUSPECT (log entry 37). -/
def Obligations.SuccessfulChallengeSettlesTheSlot : Prop :=
  (∀ (s : State) (serial : Word) (weight : Nat) (e : Entry), s.entry serial = some e →
      let count := min (e.count + weight) 255
      let newlyMarked := e.suspect = false ∧ s.tables.settings[0] ≤ count
      let counted : State :=
        { s with
          known := s.known.map fun o =>
            if o.serial = serial then
              { o with
                count := min (o.count + weight) 255
                suspect := if newlyMarked then true else o.suspect }
            else o }
      s.addWeight serial weight =
        if weight = 0 then s
        else if newlyMarked then
          match e.residence with
          | some n =>
            let v := if (s.slot n).state = .genuine then counted.changeState n .suspect else counted
            { v with events := EventUnit.raise .refillWarning n.val 0#32 v.events }
          | none => counted
        else counted)
  ∧ ∀ (s : State) (n : Slot) (nonce : Word) (fields : List Byte) (b : Binding) (e : Entry),
    (s.slot n).state = .authenticating ∨ (s.slot n).state.isProven = true → (s.slot n).binding = some b →
    s.entry b.identity.serial = some e → e.residence = some n → (s.known.map Entry.serial).Nodup →
    settingsAgree s.tables.settings = true →
    ((s.slot n).state = .genuine → e.suspect = false) → ((s.slot n).state = .suspect → e.suspect = true) →
      let r := s.slot n
      let c := s.commit n
      let reported := leField fields 0 4
      let tolerance := s.tables.settings[7]
      let wasApplied : Nat → Nat → Bool := fun d pre =>
        decide ((pre : Int) - d - tolerance ≤ reported ∧ (reported : Int) ≤ (pre : Int) - d + tolerance)
      let slotDoubt : Option InDoubt :=
        match c.phase with
        | .inDoubt d pre => some ⟨d, pre⟩
        | _ => none
      let entryDoubt : Option InDoubt :=
        if slotDoubt.isSome = true ∨ r.proven = true ∨ e.refurbished = true then none else e.inDoubt
      let slotApplied : Option Nat :=
        slotDoubt.bind fun i => if wasApplied i.amount i.preLevel then some i.amount else none
      let entryApplied : Option Nat :=
        entryDoubt.bind fun i => if wasApplied i.amount i.preLevel then some i.amount else none
      let level1 : Option Nat := r.level.map fun l => l - slotApplied.getD 0
      let debit1 : Nat := r.pendingDebit - slotApplied.getD 0
      let phase1 : CommitPhase := if slotDoubt.isSome then .idle else c.phase
      let last1 : Option Nat :=
        if slotApplied.isSome then level1.or e.lastLevel else e.lastLevel.map fun l => l - entryApplied.getD 0
      let exhausted1 : Bool :=
        e.exhausted || (slotApplied.isSome && level1 == some 0) || (entryApplied.isSome && last1 == some 0)
      let doubt1 : Option InDoubt := if slotDoubt.isSome = true ∨ entryDoubt.isSome = true then none else e.inDoubt
      let ceiling := s.tables.classes[b.classIndex].ceiling
      let p := min reported ceiling
      let x : Option Nat := if r.proven then level1 else last1
      let rise : Bool :=
        match x with
        | some x => !e.refurbished && decide (x + tolerance < p)
        | none => false
      let shortfall : Bool :=
        match x with
        | some x => !e.refurbished && !rise && decide (p < x - tolerance)
        | none => false
      let level2 : Nat := if rise then min (x.getD 0) ceiling else p
      let carried2 : Nat := if r.proven = true ∨ e.refurbished = true then 0 else e.carried.getD 0 - entryApplied.getD 0
      let debit2 : Nat := if r.proven then debit1 else min (debit1 + carried2) 4294967295
      let count2 : Nat :=
        if rise = true ∧ s.tables.settings[2] ≠ 0 then min (e.count + s.tables.settings[2]) 255 else e.count - 1
      let suspect2 : Bool :=
        if s.tables.settings[0] ≤ count2 then true else if count2 ≤ s.tables.settings[1] then false else e.suspect
      let t := s.challengeOutcome n nonce (.replied fields)
      let u := t.slot n
      let close : Bool := decide (s.tables.settings[9] ≤ u.pendingDebit) || u.band == .reserve || u.band == .out
      let asks : Bool :=
        (slotDoubt.isSome && (slotApplied.isNone || close || c.followOn)) || (entryDoubt.isSome && entryApplied.isNone)
          || (r.state == .authenticating && close)
      let placed : Bool :=
        asks && decide (0 < u.pendingDebit) && (phase1 == CommitPhase.idle || phase1 == CommitPhase.waiting)
      let newlyMarked : Bool := !e.suspect && decide (s.tables.settings[0] ≤ count2)
      let moved : Bool := r.state == .authenticating || u.band != r.band
      let added : EventKind → Bool → Prop := fun k cause =>
        t.events.holds k n.val = (s.events.holds k n.val || (cause && decide (k ∈ s.events.enabled)))
      if BitVec.ofNat 32 (leField fields 4 4) = challengeTag s.tables b nonce reported then
        u = { r with
              state := if suspect2 then .suspect else .genuine
              proven := r.proven || r.state == .authenticating
              attempts := 0
              round := 0
              countdown := s.tables.settings[8]
              level := some level2
              pendingDebit := debit2
              band := currentBand s.tables u }
          ∧ t.known = s.known.map (fun o =>
              if o.serial = b.identity.serial then
                { e with
                  generation :=
                    if e.refurbished then b.identity.generation
                    else if r.proven = false ∧ e.generation.toNat < b.identity.generation.toNat then b.identity.generation
                    else e.generation
                  lastLevel := some level2
                  unsettled := if r.proven = true ∧ e.refurbished = false then e.unsettled else 0
                  inDoubt := if e.refurbished then none else doubt1
                  count := count2
                  exhausted := if e.refurbished then level2 == 0 else exhausted1 || level2 == 0
                  suspect := suspect2
                  carried := if r.proven = false then none else if e.refurbished then some 0 else e.carried
                  refurbished := false }
              else o)
          ∧ t.commit n =
              ⟨if placed = true ∧ phase1 = .idle then .waiting else phase1, if slotDoubt.isSome then false else c.followOn⟩
          ∧ (∀ q, q ∈ t.bus.queue ↔ q ∈ s.bus.queue ∨ (q = ⟨n, .debit⟩ ∧ placed = true))
          ∧ added .levelShortfall shortfall ∧ added .refillWarning newlyMarked
          ∧ added .bandLow (moved && u.band == .low) ∧ added .bandReserve (moved && u.band == .reserve)
          ∧ added .bandOut (moved && u.band == .out)
          ∧ t.swath = { s.swath with latched := t.swath.latched }
          ∧ (∀ m, m ≠ n → t.swath.latched[m] = s.swath.latched[m])
          ∧ (if s.swath.descriptor.isSome then
              s.swath.latched[n].strictness ≤ t.swath.latched[n].strictness
                ∧ (u.state ≠ r.state ∨ u.band ≠ r.band ∨ u.pendingDebit ≠ r.pendingDebit →
                    (actionFor s.tables u).strictness ≤ t.swath.latched[n].strictness)
            else t.swath.latched[n] = s.swath.latched[n])
          ∧ added .genuine (r.state == .authenticating)
          ∧ (∀ m, m ≠ n → t.slot m = s.slot m ∧ t.commit m = s.commit m)
          ∧ t.bus.flight = s.bus.flight ∧ t.commits.orphan = s.commits.orphan ∧ t.residue = s.residue
          ∧ t.tables = s.tables ∧ t.nonce = s.nonce
      else t = (s.addWeight b.identity.serial s.tables.settings[3]).fail n .challenge

/-- O53. R37, R67, R68, R87, R119, R120, R123 to R127, R129, R147, R148, R151: the outcome of a DEBIT: confirmed, or answered with a wrong tag by
a slot still bound (whose entry and mark agree with it, O14 and O17), or unanswered, or that of a cartridge that has left. An
answer raises the event of a band entered, and tightens the latched action within an open swath. -/
def Obligations.DebitOutcomeSettlesTheAccount : Prop :=
  (∀ (s : State) (n : Slot) (d : Nat) (nonce : Word) (pre : Nat) (serial : Word) (k : Fin 16) (fields : List Byte) (b : Binding),
    s.commits.orphan = none → (s.commit n).phase = .inFlight d nonce pre serial k → (s.slot n).binding = some b →
      let r := s.slot n
      let t := s.debitOutcome n (.replied fields)
      let u := t.slot n
      let pendingDebit := r.pendingDebit - d
      let level := r.level.map fun l => l - d
      let lowered : Entry → Entry := fun e =>
        { e with lastLevel := level.or e.lastLevel, exhausted := e.exhausted || level == some 0 }
      let waits : Bool :=
        u.state.isProven && decide (0 < pendingDebit)
          && (decide (s.tables.settings[9] ≤ pendingDebit) || u.band == .reserve || u.band == .out || (s.commit n).followOn)
      let added : EventKind → Bool → Prop := fun k cause =>
        t.events.holds k n.val = (s.events.holds k n.val || (cause && decide (k ∈ s.events.enabled)))
      let tightened :=
        t.swath = { s.swath with latched := t.swath.latched } ∧ (∀ m, m ≠ n → t.swath.latched[m] = s.swath.latched[m])
          ∧ if s.swath.descriptor.isSome then
              s.swath.latched[n].strictness ≤ t.swath.latched[n].strictness
                ∧ (actionFor s.tables u).strictness ≤ t.swath.latched[n].strictness
            else t.swath.latched[n] = s.swath.latched[n]
      (t.commit n = ⟨if waits then .waiting else .idle, false⟩
          ∧ (⟨n, .debit⟩ ∈ t.bus.queue ↔ ⟨n, .debit⟩ ∈ s.bus.queue ∨ waits = true)
          ∧ t.bus.flight = s.bus.flight ∧ t.commits.orphan = none ∧ t.residue = s.residue ∧ t.nonce = s.nonce
          ∧ t.tables = s.tables)
        ∧ (added .bandLow (u.band != r.band && u.band == .low)
            ∧ added .bandReserve (u.band != r.band && u.band == .reserve)
            ∧ added .bandOut (u.band != r.band && u.band == .out))
        ∧ (BitVec.ofNat 32 (leField fields 4 4) = debitTag s.tables k nonce serial (leField fields 0 4) d →
            u = { r with pendingDebit := pendingDebit, level := level, band := currentBand s.tables u }
              ∧ t.known = s.known.map (fun e => if e.serial = b.identity.serial then lowered e else e)
              ∧ added .levelShortfall
                  (match level with
                    | some l => decide (leField fields 0 4 < l - s.tables.settings[7])
                    | none => false)
              ∧ tightened ∧ ∀ m, m ≠ n → t.slot m = s.slot m ∧ t.commit m = s.commit m)
        ∧ ∀ e : Entry,
            BitVec.ofNat 32 (leField fields 4 4) ≠ debitTag s.tables k nonce serial (leField fields 0 4) d →
            serial = b.identity.serial → s.entry serial = some e → e.residence = some n →
            (s.known.map Entry.serial).Nodup → (r.state = .genuine → e.suspect = false) →
              let weight := s.tables.settings[3]
              let count := if weight = 0 then e.count else min (e.count + weight) 255
              let newlyMarked : Bool := weight != 0 && !e.suspect && decide (s.tables.settings[0] ≤ count)
              let sequenceOpen :=
                0 < r.attempts ∨ ⟨n, .challenge⟩ ∈ s.bus.queue ∨ ∃ f ∈ s.bus.flight, f.slot = n ∧ f.kind = .challenge
              u = { r with
                    state := if newlyMarked = true ∧ r.state = .genuine then .suspect else r.state
                    allowance := if r.state.isProven = true ∧ ¬sequenceOpen then s.tables.settings[12] else r.allowance
                    pendingDebit := pendingDebit
                    level := level
                    band := currentBand s.tables u }
                ∧ t.known = s.known.map (fun o =>
                    if o.serial = serial then { lowered e with count := count, suspect := e.suspect || newlyMarked } else o)
                ∧ added .refillWarning newlyMarked
                ∧ (r.state.isProven = true ∨ r.state = .authenticating → ⟨n, .challenge⟩ ∈ t.bus.queue)
                ∧ tightened ∧ ∀ m, m ≠ n → t.slot m = s.slot m ∧ t.commit m = s.commit m)
    ∧ (∀ (s : State) (n : Slot) (d : Nat) (nonce : Word) (pre : Nat) (serial : Word) (k : Fin 16) (outcome : BusOutcome),
        s.commits.orphan = none → (s.commit n).phase = .inFlight d nonce pre serial k →
        outcome = .timeout ∨ outcome = .busFault →
          let t := s.debitOutcome n outcome
          t.commit n = { s.commit n with phase := .inDoubt d pre }
            ∧ (t.slot n).pendingDebit = (s.slot n).pendingDebit ∧ (t.slot n).level = (s.slot n).level
            ∧ (EventKind.commitInDoubt ∈ s.events.enabled → t.events.holds .commitInDoubt n.val = true)
            ∧ ((s.slot n).state.isProven = true ∨ (s.slot n).state = .authenticating → ⟨n, .challenge⟩ ∈ t.bus.queue)
            ∧ t.known = s.known ∧ (∀ m, m ≠ n → t.slot m = s.slot m ∧ t.commit m = s.commit m))
    ∧ ∀ (s : State) (n : Slot) (o : Orphan) (outcome : BusOutcome), s.commits.orphan = some o →
        let t := s.debitOutcome n outcome
        t.commits = { s.commits with orphan := none }
          ∧ match outcome with
            | .replied fields =>
              let settled :=
                s.known.map fun e =>
                  if e.serial = o.serial then
                    { e with
                      lastLevel := e.lastLevel.map fun l => l - o.amount
                      unsettled := e.unsettled - o.amount
                      inDoubt := none
                      exhausted := e.exhausted || (e.lastLevel.map fun l => l - o.amount) == some 0 }
                  else e
              if BitVec.ofNat 32 (leField fields 4 4)
                  = debitTag s.tables o.classIndex o.nonce o.serial (leField fields 0 4) o.amount then
                t = { s with commits := { s.commits with orphan := none }, known := settled }
              else
                t = State.addWeight { s with commits := { s.commits with orphan := none }, known := settled } o.serial
                  s.tables.settings[3]
            | _ =>
              t = { s with
                commits := { s.commits with orphan := none }
                events := EventUnit.raise .commitInDoubt o.slot.val 0#32 s.events }

/-- O54. R136: the entry evicted for a serial that a full list does not hold, and the list with the new entry in position 0. -/
def Obligations.EvictionSparesSlotsAndExhaustedEntries : Prop :=
  (∀ l : List Entry, l.length < 48 → makeRoom l = l)
  ∧ ∀ (l : List Entry) (id : Identity) (n : Slot), 48 ≤ l.length → (∃ e ∈ l, e.residence = none) →
    (∀ e ∈ l, e.serial ≠ id.serial) →
      ∃ (i : Nat) (e : Entry), l[i]? = some e ∧ e.residence = none ∧ makeRoom l = l.eraseIdx i
        ∧ (∃ new, bindEntry l id n = new :: l.eraseIdx i ∧ new.serial = id.serial ∧ new.residence = some n ∧ new.count = 0)
        ∧ if ∃ o ∈ l, o.residence = none ∧ o.exhausted = false then
            e.exhausted = false ∧ ∀ (j : Nat) (o : Entry), i < j → l[j]? = some o → o.residence = none → o.exhausted = true
          else ∀ (j : Nat) (o : Entry), i < j → l[j]? = some o → o.residence ≠ none

/-! ### Requests -/

/-- O55. R154, R155, R157, R158, R163 to R166: the entry forms and the codes in which the part sends what it holds; and READ
TABLE, QUERY SLOT, QUERY KNOWN and QUERY STATUS change nothing but the two queues. A READ TABLE of the wrong length is answered
RANGE whatever its table number (log entry 34). -/
def Obligations.QueriesReportAndChangeNothing : Prop :=
  (∀ v : Nat,
      leBytes 2 v = [BitVec.ofNat 8 v, BitVec.ofNat 8 (v / 256)]
        ∧ leBytes 4 v =
          [BitVec.ofNat 8 v, BitVec.ofNat 8 (v / 256), BitVec.ofNat 8 (v / 65536), BitVec.ofNat 8 (v / 16777216)])
    ∧ (∀ t : Tables,
        (t.sent .drop).length = 12 ∧ (t.sent .curve).length = 8 ∧ (t.sent .lanes).length = 32 ∧ (t.sent .thin).length = 16
          ∧ (t.sent .policy).length = 9 ∧ (t.sent .classes).length = 16 ∧ (t.sent .sockets).length = 12
          ∧ (t.sent .settings).length = 24
          ∧ (∀ i : Fin 12, (t.sent .drop)[i.val]? = some (leBytes 2 t.drop[i]))
          ∧ (∀ i : Fin 8,
              (t.sent .curve)[i.val]? =
                some (leBytes 2 (BitVec.ofInt 16 t.curve[i].temperature).toNat ++ leBytes 2 t.curve[i].factor))
          ∧ (∀ i : Fin 32,
              (t.sent .lanes)[i.val]? =
                some
                  (match t.lanes[i] with
                    | some n => [BitVec.ofNat 8 n.val]
                    | none => [0xFF#8]))
          ∧ (∀ i : Fin 16, (t.sent .thin)[i.val]? = some [BitVec.ofNat 8 t.thin[i].toNat])
          ∧ (∀ i : Fin 9,
              (t.sent .policy)[i.val]? =
                some
                  (match t.policy[i] with
                    | .pass => [0#8]
                    | .thin => [1#8]
                    | .blank => [2#8]))
          ∧ (∀ i : Fin 16,
              let c := t.classes[i]
              (t.sent .classes)[i.val]? =
                some
                  ((if c.valid then 1#8 else 0#8) :: (leBytes 2 c.code.toNat ++ leBytes 2 c.mask.toNat
                    ++ [c.colours, BitVec.ofNat 8 c.keyIndex.val] ++ leBytes 4 c.ceiling ++ leBytes 2 c.low
                    ++ leBytes 2 c.reserve)))
          ∧ (∀ i : Fin 12,
              (t.sent .sockets)[i.val]? = some [if t.sockets[i].enabled then 1#8 else 0#8, t.sockets[i].colours])
          ∧ ∀ i : Fin 24, (t.sent .settings)[i.val]? = some (leBytes 4 t.settings[i]))
    ∧ ([Status.done, .queued, .busy, .locked, .range, .state, .unknown, .eventsPending, .writeOnly].map Status.code
          = [0#8, 1#8, 2#8, 3#8, 4#8, 5#8, 6#8, 7#8, 8#8]
        ∧ [SlotState.empty, .settling, .identifying, .authenticating, .holdoff, .genuine, .suspect, .foreign, .misplaced,
              .reused].map SlotState.code
          = [0#8, 1#8, 2#8, 3#8, 4#8, 5#8, 6#8, 7#8, 8#8, 9#8]
        ∧ [Band.none, .normal, .low, .reserve, .out].map Band.code = [0#8, 1#8, 2#8, 3#8, 4#8]
        ∧ (∀ p : CommitPhase,
            p.code =
              match p with
              | .idle => 0#8
              | .waiting => 1#8
              | .inFlight .. => 2#8
              | .inDoubt .. => 3#8)
        ∧ [Action.pass, .thin, .blank].map Action.code = [0, 1, 2]
        ∧ (∀ p : Park,
            p.code =
              match p with
              | .active => 0#8
              | .parking _ => 1#8
              | .parked => 2#8)
        ∧ [BusStatus.idle, .busy, .fault].map BusStatus.code = [0#8, 1#8, 2#8])
    ∧ ((∀ b : Byte,
          tableOf b =
            [TableId.drop, .curve, .lanes, .thin, .policy, .classes, .keys, .sockets, .settings][b.toNat - 1]?.filter
              fun _ => b ≠ 0#8)
        ∧ [TableId.drop, .curve, .lanes, .thin, .policy, .classes, .keys, .sockets, .settings].map TableId.entries
          = [12, 8, 32, 16, 9, 16, 8, 12, 24]
        ∧ ∀ (l : Locks) (t : TableId),
            l.holds t =
              match t with
              | .policy => l.policy
              | .classes => l.classes
              | .keys => l.keys
              | .sockets => l.sockets
              | .settings => l.settings
              | _ => false)
    ∧ (∀ (d : Decoder) (t : TableId),
        let status : {α : Type} → Staging α → Byte := fun copy =>
          match copy with
          | .none => 0#8
          | .opened _ => 1#8
          | .ready _ => 2#8
        d.stagingCode t =
          match t with
          | .drop => status d.dropCopy
          | .curve => status d.curveCopy
          | .lanes => status d.laneCopy
          | .thin => status d.thinCopy
          | .policy => status d.policyCopy
          | _ => 0#8)
    ∧ ∀ (r : Request) (s : State), s.run = .running → s.offers r →
    let present : Option Nat → List Byte := fun x =>
      match x with
      | some x => 1#8 :: leBytes 4 x
      | none => [0#8, 0#8, 0#8, 0#8, 0#8]
    (r.code = 2#8 →
        exec .readTable s = .next
          (State.serve (State.finish
            (match r.args with
              | [b, first, count] =>
                match tableOf b with
                | none => s.answered r .unknown []
                | some .keys => s.answered r .writeOnly []
                | some t =>
                  if count.toNat = 0 ∨ 32 < count.toNat ∨ t.entries ≤ first.toNat then s.answered r .range []
                  else
                    s.answered r .done
                      (BitVec.ofNat 8 (min count.toNat (t.entries - first.toNat)) :: flagByte (s.tables.locks.holds t)
                        :: s.decoder.stagingCode t :: (((s.tables.sent t).drop first.toNat).take count.toNat).flatten)
              | _ => s.answered r .range []))))
      ∧ (r.code = 4#8 →
          exec .querySlot s = .next
            (State.serve (State.finish
              (match r.args with
                | [b] =>
                  if h : b.toNat < 12 then
                    let n : Slot := ⟨b.toNat, h⟩
                    let v := s.slot n
                    s.answered r .done
                      (v.state.code
                        :: ((match v.binding with
                            | some x =>
                              1#8 :: (leBytes 4 x.identity.serial.toNat ++ leBytes 2 x.identity.product.toNat
                                ++ [x.identity.colours, x.identity.generation] ++ leBytes 4 x.identity.capacity
                                ++ [BitVec.ofNat 8 x.classIndex.val])
                            | none => List.replicate 14 0#8)
                          ++ [BitVec.ofNat 8 v.allowance, BitVec.ofNat 8 v.attempts, BitVec.ofNat 8 v.round]
                          ++ present v.level ++ leBytes 4 v.pendingDebit
                          ++ present (if v.state.isProven then some (v.level.getD 0 - v.pendingDebit) else none)
                          ++ [v.band.code, (s.commit n).phase.code]
                          ++ leBytes 4
                              (match (s.commit n).phase with
                                | .inFlight d _ _ _ _ => d
                                | .inDoubt d _ => d
                                | _ => 0)
                          ++ [BitVec.ofNat 8 s.swath.latched[n].code]))
                  else s.answered r .range []
                | _ => s.answered r .range []))))
      ∧ (r.code = 5#8 →
          exec .queryKnown s = .next
            (State.serve (State.finish
              (match r.args with
                | [first, count] =>
                  if count.toNat = 0 ∨ 8 < count.toNat then s.answered r .range []
                  else
                    let shown := (s.known.drop first.toNat).take count.toNat
                    s.answered r .done
                      (BitVec.ofNat 8 s.known.length :: BitVec.ofNat 8 shown.length
                        :: (shown.zipIdx first.toNat).flatMap fun (e, position) =>
                            BitVec.ofNat 8 position
                              :: (leBytes 4 e.serial.toNat ++ leBytes 2 e.product.toNat ++ [e.generation]
                                ++ present e.lastLevel ++ leBytes 4 e.unsettled
                                ++ (match e.inDoubt with
                                    | some i => 1#8 :: (leBytes 4 i.amount ++ leBytes 4 i.preLevel)
                                    | none => List.replicate 9 0#8)
                                ++ [BitVec.ofNat 8 e.count,
                                    (if e.exhausted then 1#8 else 0#8) ||| (if e.suspect then 2#8 else 0#8),
                                    match e.residence with
                                    | some n => BitVec.ofNat 8 n.val
                                    | none => 0xFF#8]))
                | _ => s.answered r .range []))))
      ∧ (r.code = 6#8 →
          exec .queryStatus s = .next
            (State.serve (State.finish
              (if r.args = [] then
                s.answered r .done
                  (s.decoder.park.code :: flagByte s.store.save.isSome
                    :: (leBytes 2 s.store.writeCount ++ [s.bus.status.code] ++ leBytes 2 s.link.crcErrors
                      ++ [BitVec.ofNat 8 s.events.pending.length, flagByte s.events.noticesOn]))
              else s.answered r .range []))))

/-- O56. R155, R157, R159, R164: LOAD TABLE is judged in the order of R159, and LOCK TABLE only adds to the lock set. A LOAD TABLE
with no argument, and a LOCK TABLE of the wrong length whatever its table number, are answered RANGE (log entry 34). What the
entries are and what their load does is O57's; the table numbers and the numbers of entries are O55's. -/
def Obligations.TablesAreLoadedAndLockedByRequest : Prop :=
  [TableId.drop, .curve, .lanes, .thin, .policy, .classes, .keys, .sockets, .settings].map TableId.entryBytes
      = [2, 4, 1, 1, 1, 15, 16, 2, 4]
  ∧ ∀ (r : Request) (s : State), s.run = .running → s.offers r →
    let u : State := { s with decoder := { s.decoder with requests := s.decoder.requests.drop 1 } }
    (r.code = 1#8 →
        exec .loadTable s = .next
          (State.serve (State.finish
            (match r.args with
              | [] => s.answered r .range []
              | b :: rest =>
                match tableOf b, rest with
                | none, _ => s.answered r .unknown []
                | some t, first :: final :: count :: entries =>
                  if 1 < final.toNat ∨ entries.length ≠ t.entryBytes * count.toNat then s.answered r .range []
                  else if s.tables.locks.holds t = true then s.answered r .locked []
                  else if t.entries ≤ first.toNat then s.answered r .range []
                  else
                    let written := min count.toNat (t.entries - first.toNat)
                    match u.loadEntries t first.toNat written (final == 1#8) entries with
                    | some v =>
                      { v with
                        link :=
                          { v.link with
                            replies := v.link.replies ++ [s.replyTo r .done [BitVec.ofNat 8 written]] } }
                    | none => s.answered r .range []
                | some _, _ => s.answered r .range []))))
      ∧ (r.code = 3#8 →
          exec .lockTable s = .next
            (State.serve (State.finish
              (match r.args with
                | [b] =>
                  let v := s.answered r .done []
                  match tableOf b with
                  | none => s.answered r .unknown []
                  | some .policy =>
                    if s.tables.locks.policy then v
                    else
                      { v with
                        tables := { s.tables with locks := { s.tables.locks with policy := true } }
                        decoder := { v.decoder with policyCopy := .none } }
                  | some .classes =>
                    { v with tables := { s.tables with locks := { s.tables.locks with classes := true } } }
                  | some .keys => { v with tables := { s.tables with locks := { s.tables.locks with keys := true } } }
                  | some .sockets =>
                    { v with tables := { s.tables with locks := { s.tables.locks with sockets := true } } }
                  | some .settings =>
                    { v with tables := { s.tables with locks := { s.tables.locks with settings := true } } }
                  | some _ => s.answered r .range []
                | _ => s.answered r .range []))))

/-- O57. R37, R67 to R69, R78, R96, R153, R155, R158 to R161: the entries of a load, `written` of them from index `first`: refused where one
is out of range or the table would not agree, and otherwise written, with the effects that follow. A class load lowers the L of
the slots it concerns, whose bands it recomputes (raising the event of a band entered) and whose latched actions it tightens within
an open swath; the last level of an entry follows the slot's L, and its exhausted flag does not (log entry 28). -/
def Obligations.LoadsWriteTheirEntries : Prop :=
  (∀ (i : Fin 24) (v : Nat),
      settingInRange i.val v = true ↔
        (#v[1, 0, 0, 0, 0, 0, 0, 0, 1, 1000, 1000, 1, 1, 100, 1, 0, 1, 50, 256, 50, 5, 0, 1, 0] : Vector Nat 24)[i] ≤ v
          ∧ v ≤ (#v[255, 254, 255, 255, 255, 255, 255, 16000000, 4095, 16000000, 64000000, 4, 4, 10000, 7, 1, 40, 5000, 2047,
              1000, 100, 1000, 1000, 255] : Vector Nat 24)[i])
  ∧ (∀ v : Vector Nat 24, settingsAgree v = true ↔ v[9] ≤ v[10] ∧ v[1] < v[0])
  ∧ ∀ (s : State) (first written : Nat) (final : Bool) (bs : List Byte),
    let inside : Nat → Prop := fun i => first ≤ i ∧ i < first + written
    let base : {α : Type} → Staging α → α → α := fun copy active =>
      match copy with
      | .none => active
      | .opened c => c
      | .ready c => c
    let staged : {α : Type} → α → Staging α := fun c => if final then .ready c else .opened c
    (s.loadEntries .drop first written final bs =
        if ∀ j < written, leField bs (2 * j) 2 ≤ 4095 then
          some
            { s with
              decoder :=
                { s.decoder with
                  dropCopy := staged (Vector.ofFn fun i =>
                    if first ≤ i.val ∧ i.val < first + written then leField bs (2 * (i.val - first)) 2
                    else (base s.decoder.dropCopy s.tables.drop)[i]) } }
        else none)
      ∧ (s.loadEntries .curve first written final bs =
          if ∀ j < written,
              (-80 ≤ signed16 (leField bs (4 * j) 2) ∧ signed16 (leField bs (4 * j) 2) ≤ 300)
                ∧ 256 ≤ leField bs (4 * j + 2) 2 ∧ leField bs (4 * j + 2) 2 ≤ 2047 then
            some
              { s with
                decoder :=
                  { s.decoder with
                    curveCopy := staged (Vector.ofFn fun i =>
                      if first ≤ i.val ∧ i.val < first + written then
                        ⟨signed16 (leField bs (4 * (i.val - first)) 2), leField bs (4 * (i.val - first) + 2) 2⟩
                      else (base s.decoder.curveCopy s.tables.curve)[i]) } }
          else none)
      ∧ (s.loadEntries .lanes first written final bs =
          if ∀ j < written, (byteAt bs j).toNat < 12 ∨ byteAt bs j = 0xFF#8 then
            some
              { s with
                decoder :=
                  { s.decoder with
                    laneCopy := staged (Vector.ofFn fun i =>
                      if first ≤ i.val ∧ i.val < first + written then
                        if h : (byteAt bs (i.val - first)).toNat < 12 then some ⟨(byteAt bs (i.val - first)).toNat, h⟩
                        else none
                      else (base s.decoder.laneCopy s.tables.lanes)[i]) } }
          else none)
      ∧ (s.loadEntries .thin first written final bs =
          if ∀ j < written, (byteAt bs j).toNat ≤ (first + j) % 4 then
            some
              { s with
                decoder :=
                  { s.decoder with
                    thinCopy := staged (Vector.ofFn fun i =>
                      if first ≤ i.val ∧ i.val < first + written then (byteAt bs (i.val - first)).setWidth 2
                      else (base s.decoder.thinCopy s.tables.thin)[i]) } }
          else none)
      ∧ (s.loadEntries .policy first written final bs =
          if ∀ j < written, (byteAt bs j).toNat ≤ 2 then
            some
              { s with
                decoder :=
                  { s.decoder with
                    policyCopy := staged (Vector.ofFn fun i =>
                      if first ≤ i.val ∧ i.val < first + written then
                        if byteAt bs (i.val - first) = 0#8 then .pass
                        else if byteAt bs (i.val - first) = 1#8 then .thin else .blank
                      else (base s.decoder.policyCopy s.tables.policy)[i]) } }
          else none)
      ∧ (s.loadEntries .keys first written final bs =
          some
            { s with
              tables :=
                { s.tables with
                  keys := Vector.ofFn fun i =>
                    if first ≤ i.val ∧ i.val < first + written then
                      ⟨BitVec.ofNat 32 (leField bs (16 * (i.val - first)) 4),
                        BitVec.ofNat 32 (leField bs (16 * (i.val - first) + 4) 4),
                        BitVec.ofNat 32 (leField bs (16 * (i.val - first) + 8) 4),
                        BitVec.ofNat 32 (leField bs (16 * (i.val - first) + 12) 4)⟩
                    else s.tables.keys[i] } })
      ∧ (let classes : Vector ClassEntry 16 := Vector.ofFn fun i =>
            let base15 := 15 * (i.val - first)
            if first ≤ i.val ∧ i.val < first + written then
              { valid := byteAt bs base15 == 1#8
                code := BitVec.ofNat 16 (leField bs (base15 + 1) 2)
                mask := BitVec.ofNat 16 (leField bs (base15 + 3) 2)
                colours := byteAt bs (base15 + 5)
                keyIndex := Fin.ofNat 8 (byteAt bs (base15 + 6)).toNat
                ceiling := leField bs (base15 + 7) 4
                low := leField bs (base15 + 11) 2
                reserve := leField bs (base15 + 13) 2 }
            else s.tables.classes[i]
          if (∀ j < written,
                (byteAt bs (15 * j)).toNat ≤ 1 ∧ (byteAt bs (15 * j + 6)).toNat ≤ 7 ∧ leField bs (15 * j + 11) 2 ≤ 1000
                  ∧ leField bs (15 * j + 13) 2 ≤ leField bs (15 * j + 11) 2)
              ∧ ∀ k : Fin 16, classes[k].reserve ≤ classes[k].low then
            ∃ t, s.loadEntries .classes first written final bs = some t
              ∧ t.tables = { s.tables with classes := classes }
              ∧ (∀ n : Slot,
                  (∀ b, (s.slot n).binding = some b → (s.slot n).state.isProven = true → inside b.classIndex.val →
                    t.slot n =
                      { s.slot n with
                        level := (s.slot n).level.map fun l => min l classes[b.classIndex].ceiling
                        band := currentBand t.tables (t.slot n) })
                    ∧ ((∀ b, (s.slot n).binding = some b →
                        (s.slot n).state.isProven = false ∨ ¬inside b.classIndex.val) → t.slot n = s.slot n))
              ∧ (∀ (k : EventKind) (i : Nat),
                  t.events.holds k i = true ↔
                    s.events.holds k i = true
                      ∨ (k ∈ s.events.enabled
                          ∧ ∃ n : Slot, i = n.val ∧ (t.slot n).band ≠ (s.slot n).band
                            ∧ ((k = .bandLow ∧ (t.slot n).band = .low) ∨ (k = .bandReserve ∧ (t.slot n).band = .reserve)
                                ∨ (k = .bandOut ∧ (t.slot n).band = .out))))
              ∧ (∀ n : Slot,
                  t.swath.latched[n] =
                    if s.swath.descriptor.isSome = true ∧ (s.slot n).state.isProven = true
                        ∧ (∃ b ∈ (s.slot n).binding, inside b.classIndex.val) then
                      s.swath.latched[n].stricter (actionFor t.tables (t.slot n))
                    else s.swath.latched[n])
              ∧ t.swath = { s.swath with latched := t.swath.latched }
              ∧ (s.bindingsAgree →
                  t.known = s.known.map fun e =>
                    match e.residence with
                    | some n =>
                      if (s.slot n).state.isProven = true ∧ (∃ b ∈ (s.slot n).binding, inside b.classIndex.val) then
                        { e with lastLevel := (t.slot n).level.or e.lastLevel }
                      else e
                    | none => e)
              ∧ t.bus = s.bus ∧ t.commits = s.commits ∧ t.nonce = s.nonce ∧ t.residue = s.residue ∧ t.link = s.link
              ∧ t.decoder = s.decoder
          else s.loadEntries .classes first written final bs = none)
      ∧ ((∀ j < written, (byteAt bs (2 * j)).toNat ≤ 1) →
          let sockets : Vector SocketConfig 12 := Vector.ofFn fun i =>
            if first ≤ i.val ∧ i.val < first + written then
              ⟨byteAt bs (2 * (i.val - first)) == 1#8, byteAt bs (2 * (i.val - first) + 1)⟩
            else s.tables.sockets[i]
          ∃ t, s.loadEntries .sockets first written final bs = some t
            ∧ t.tables = { s.tables with sockets := sockets }
            ∧ ∀ n : Slot,
                match s.tables.sockets[n].enabled, sockets[n].enabled with
                | true, false =>
                  t.watch n = .disabled
                    ∧ ((s.slot n).state ≠ .empty → (s.watch n).reads ≠ none → s.watch n ≠ .quiet →
                        t.slot n = SlotRecord.fresh ∧ t.residue[n] = 0 ∧ (∀ q ∈ t.bus.queue, q.slot ≠ n)
                          ∧ (EventKind.removed ∈ s.events.enabled → t.events.holds .removed n.val = true))
                | false, true =>
                  (s.present[n] = false → t.watch n = .quiet ∧ t.slot n = s.slot n)
                    ∧ (s.present[n] = true → (s.slot n).state = .empty →
                        t.watch n = .arriving (some s.tables.settings[19]) ∧ (t.slot n).state = .settling
                          ∧ (EventKind.inserted ∈ s.events.enabled → t.events.holds .inserted n.val = true))
                | _, _ => t.watch n = s.watch n ∧ t.slot n = s.slot n ∧ t.residue[n] = s.residue[n])
      ∧ ((∃ j < written, 1 < (byteAt bs (2 * j)).toNat) → s.loadEntries .sockets first written final bs = none)
      ∧ (let settings : Vector Nat 24 := Vector.ofFn fun i =>
            if first ≤ i.val ∧ i.val < first + written then leField bs (4 * (i.val - first)) 4 else s.tables.settings[i]
          if (∀ j < written, settingInRange (first + j) (leField bs (4 * j) 4) = true)
              ∧ settings[9] ≤ settings[10] ∧ settings[1] < settings[0] then
            ∃ t, s.loadEntries .settings first written final bs = some t
              ∧ t.tables = { s.tables with settings := settings }
              ∧ ((s.known.map Entry.serial).Nodup →
                  t.known = s.known.map fun e =>
                    { e with
                      suspect :=
                        if settings[0] ≤ e.count then true else if e.count ≤ settings[1] then false else e.suspect })
              ∧ (s.swath.descriptor.isSome = true → ∀ n : Slot,
                  (actionFor t.tables (s.slot n)).strictness ≤ t.swath.latched[n].strictness)
              ∧ (∀ n : Slot, (t.slot n).binding = (s.slot n).binding ∧ (t.slot n).level = (s.slot n).level
                  ∧ (t.slot n).pendingDebit = (s.slot n).pendingDebit)
              ∧ (s.bindingsAgree → ∀ e ∈ s.known, ∀ n ∈ e.residence,
                  let newlyMarked := e.suspect = false ∧ settings[0] ≤ e.count
                  let cleared := e.suspect = true ∧ e.count ≤ settings[1]
                  (t.slot n).state =
                      (if newlyMarked ∧ (s.slot n).state = .genuine then .suspect
                      else if cleared ∧ (s.slot n).state = .suspect then .genuine
                      else (s.slot n).state)
                    ∧ (newlyMarked → EventKind.refillWarning ∈ s.events.enabled →
                        t.events.holds .refillWarning n.val = true))
              ∧ t.bus = s.bus ∧ t.commits = s.commits ∧ t.nonce = s.nonce ∧ t.residue = s.residue ∧ t.link = s.link
              ∧ t.decoder = s.decoder
          else s.loadEntries .settings first written final bs = none)

/-- O58. R155, R168 to R174: the codes, indices and categories of the event kinds, the raising of an event, the opening of the gate,
the payload of a NOTICE, the EVENTS requests, and the expiry of the notice hold-off, which changes nothing where the timer is stopped (log entry 2). -/
def Obligations.EventsAreReadClearedAndAnnounced : Prop :=
  ((∀ (u : EventUnit) (k : EventKind) (i : Nat), u.holds k i = true ↔ ∃ e ∈ u.pending, e.kind = k ∧ e.index = i)
      ∧ (∀ (k : EventKind) (i : Nat) (detail : Word) (u : EventUnit),
          EventUnit.raise k i detail u =
            if k ∈ u.enabled ∧ u.holds k i = false then
              { u with
                pending := u.pending ++ [⟨k, i, detail⟩]
                noticeReady := if u.gateOpen = true ∧ u.noticesOn = true then true else u.noticeReady
                gateOpen := if u.gateOpen = true ∧ u.noticesOn = true then false else u.gateOpen }
            else u)
      ∧ (∀ u : EventUnit,
          u.openGate =
            if u.noticesOn = true ∧ u.pending ≠ [] then { u with gateOpen := false, holdoff := none, noticeReady := true }
            else { u with gateOpen := true, holdoff := none })
      ∧ allEventKinds.map EventKind.category
          = [0, 0, 0, 0, 0, 0, 0, 0, 0, 0, 0, 1, 2, 2, 2, 2, 2, 3, 3, 3, 4, 5, 5, 5, 5]
      ∧ ∀ u : EventUnit, ∃ categories : Byte,
          u.noticePayload = [BitVec.ofNat 8 u.pending.length, categories]
            ∧ ∀ j < 8, categories.getLsbD j = true ↔ ∃ e ∈ u.pending, e.kind.category = j)
  ∧ (allEventKinds.map EventKind.code = (List.range 25).map (· + 1)
      ∧ allEventKinds =
        [.inserted, .removed, .genuine, .rejected, .holdoff, .bandLow, .bandReserve, .bandOut, .levelShortfall,
          .refillWarning, .commitInDoubt, .tempStale, .swathTruncated, .strayFire, .columnOverrun, .blankedUnmeterable,
          .tableRejected, .linkCrc, .linkLost, .requestOverflow, .busStuck, .restart, .storeCorrected, .storeSectionLost,
          .parked]
      ∧ ∀ kind index : Nat, ∀ (k : EventKind) (i : Nat),
          eventName kind index = some (k, i) ↔
            k.code = kind ∧ i = index
              ∧ index <
                (if kind ≤ 11 then 12 else if kind = 12 then 4 else if kind = 23 ∨ kind = 24 then 3 else 1))
  ∧ (∀ (r : Request) (s : State) (rest : List Byte), s.run = .running → s.offers r → r.code = 7#8 →
    let opened : EventUnit → EventUnit := fun u =>
      if u.noticesOn = true ∧ u.pending ≠ [] then { u with gateOpen := false, holdoff := none, noticeReady := true }
      else { u with gateOpen := true, holdoff := none }
    let cleared : List Event → State := fun kept =>
      let e : EventUnit := { s.events with pending := kept }
      let hold : Nat := s.tables.settings[21]
      { s.answered r .done [BitVec.ofNat 8 (s.events.pending.length - kept.length)] with
        events :=
          if e.gateOpen = true ∨ e.holdoff.isSome = true then e
          else if hold = 0 then opened e
          else { e with holdoff := some hold } }
    let changed : EventUnit → State := fun e => { s.answered r .done [] with events := e }
    (r.args = 0#8 :: rest →
        exec .eventsRead s = .next
          (State.serve (State.finish
            (if rest = [] then
              s.answered r .done
                (BitVec.ofNat 8 s.events.pending.length :: BitVec.ofNat 8 (min 32 s.events.pending.length)
                  :: (s.events.pending.take 32).flatMap fun e =>
                      BitVec.ofNat 8 e.kind.code :: BitVec.ofNat 8 e.index :: leBytes 4 e.detail.toNat)
            else s.answered r .range []))))
      ∧ (r.args = 1#8 :: rest →
          exec .eventsClear s = .next
            (State.serve (State.finish
              (match rest with
                | [] => s.answered r .range []
                | [all] => if all = 1#8 then cleared [] else s.answered r .range []
                | all :: count :: names =>
                  if all = 0#8 ∧ count.toNat ≤ 32 ∧ names.length = 2 * count.toNat
                      ∧ ∀ j < count.toNat,
                          (eventName (byteAt names (2 * j)).toNat (byteAt names (2 * j + 1)).toNat).isSome = true then
                    cleared
                      (s.events.pending.filter fun e =>
                        decide (∀ j < count.toNat,
                          (byteAt names (2 * j)).toNat ≠ e.kind.code ∨ (byteAt names (2 * j + 1)).toNat ≠ e.index))
                  else s.answered r .range []))))
      ∧ (r.args = 2#8 :: rest →
          exec .eventsEnable s = .next
            (State.serve (State.finish
              (match rest with
                | [] => s.answered r .range []
                | count :: codes =>
                  if codes.length = count.toNat ∧ ∀ b ∈ codes, 1 ≤ b.toNat ∧ b.toNat ≤ 25 then
                    changed
                      { s.events with
                        enabled := allEventKinds.filter fun k =>
                          decide (BitVec.ofNat 8 k.code ∈ codes ∨ k = .restart ∨ k = .refillWarning) }
                  else s.answered r .range []))))
      ∧ (r.args = 3#8 :: rest →
          exec .noticesOn s = .next
            (State.serve (State.finish
              (if rest = [] then
                changed
                  (if s.events.gateOpen = true ∧ s.events.pending ≠ [] then
                    { s.events with noticesOn := true, noticeReady := true, gateOpen := false }
                  else { s.events with noticesOn := true })
              else s.answered r .range []))))
      ∧ (r.args = 4#8 :: rest →
          exec .noticesOff s = .next
            (State.serve (State.finish
              (if rest = [] then
                changed { s.events with noticesOn := false, noticeReady := false, gateOpen := true, holdoff := none }
              else s.answered r .range [])))))
    ∧ ∀ s : State, s.run = .running →
        exec .noticeHoldoffExpiry s = .next
          (if s.events.holdoff.isSome then
            State.sendNext
              { s with
                events :=
                  if s.events.noticesOn = true ∧ s.events.pending ≠ [] then
                    { s.events with gateOpen := false, holdoff := none, noticeReady := true }
                  else { s.events with gateOpen := true, holdoff := none } }
          else s)

/-- O59. R106, R118, R120, R155, R157, R167, R175, R176, R178. -/
def Obligations.SlotAndParkRequestsStartTheirWork : Prop :=
  ∀ (r : Request) (s : State), s.run = .running → s.offers r →
    let u : State := { s with decoder := { s.decoder with requests := s.decoder.requests.drop 1 } }
    let replied : State → Status → State := fun v status =>
      { v with link := { v.link with replies := v.link.replies ++ [s.replyTo r status []] } }
    let placed : State → Slot → BusKind → State := fun v n k =>
      { v with
        bus := { v.bus with queue := if ⟨n, k⟩ ∈ v.bus.queue then v.bus.queue else v.bus.queue ++ [⟨n, k⟩] } }
    let challenged : State → Slot → State := fun v n =>
      if (v.slot n).state.isProven = false then v
      else if 0 < (v.slot n).attempts ∨ ⟨n, .challenge⟩ ∈ v.bus.queue
          ∨ (∃ f ∈ v.bus.flight, f.slot = n ∧ f.kind = .challenge) then placed v n .challenge
      else
        placed
          { v with
            slots := v.slots.set n.val { v.slot n with allowance := v.tables.settings[12], attempts := 0 } }
          n .challenge
    let recorded : State → Slot → CommitPhase → Bool → State := fun v n phase followOn =>
      { v with commits := { v.commits with records := v.commits.records.set n.val ⟨phase, followOn⟩ } }
    let committed : State → Slot → State := fun v n =>
      if (v.slot n).state.isProven = false ∨ (v.slot n).pendingDebit = 0 then v
      else
        match (v.commit n).phase with
        | .idle => recorded (placed v n .debit) n .waiting (v.commit n).followOn
        | .waiting => placed v n .debit
        | .inFlight .. => recorded v n (v.commit n).phase true
        | .inDoubt .. => challenged (recorded v n (v.commit n).phase true) n
    let parked : Park → State := fun p => { u with decoder := { u.decoder with park := p } }
    let answer : (State → Slot → State) → State := fun act =>
      match r.args with
      | [b] =>
        if h : b.toNat < 12 then
          if (s.slot ⟨b.toNat, h⟩).state.isProven then replied (act u ⟨b.toNat, h⟩) .queued else replied u .state
        else replied u .range
      | _ => replied u .range
    (r.code = 8#8 → exec .reauthenticateSlot s = .next (answer challenged).finish.serve)
      ∧ (r.code = 9#8 → exec .commitSlot s = .next (answer committed).finish.serve)
      ∧ (r.code = 10#8 →
          exec .park s = .next
            (State.serve (State.finish
              (if r.args ≠ [] then replied u .range
              else if s.swath.descriptor.isSome then replied u .busy
              else if ∃ e ∈ s.events.pending, e.kind = .refillWarning ∨ e.kind = .commitInDoubt then
                replied u .eventsPending
              else
                match s.decoder.park with
                | .parked => replied u .done
                | .parking _ => replied u .queued
                | .active => replied (allSlots.foldl committed (parked (.parking .commits))) .queued))))
      ∧ (r.code = 11#8 →
          exec .resume s = .next
            (State.serve (State.finish
              (if r.args ≠ [] then replied u .range
              else
                match s.decoder.park with
                | .active => replied u .state
                | .parking _ => replied (parked .active) .done
                | .parked => replied (allSlots.foldl challenged (parked .active)) .done))))
      ∧ (r.code = 0#8 ∨ 13 < r.code.toNat → exec .unknownRequest s = .next (replied u .unknown).finish.serve)
      ∧ (r.code = 7#8 → (r.args = [] ∨ 4 < (byteAt r.args 0).toNat) →
          exec .unknownRequest s = .next (replied u .range).finish.serve)

/-- O60. R131, R134, R142, R175, R176, R178 to R181: a save's snapshot, its three sections in order, each with its CRC-16, its
completion, and the copies of stage 2 of parking; and what a save writes, the next start-up loads. SECTION_WRITTEN, SAVE_COMPLETE
and PARKING_COPIES change nothing where they are not due (log entries 2 and 4); the layout of the bytes is log entry 10's. -/
def Obligations.SavesWriteTheirSnapshot : Prop :=
  let config : Tables → List Byte := fun t =>
    (t.sent .policy ++ t.sent .classes ++ t.sent .sockets ++ t.sent .settings).flatten
      ++ [t.locks.policy, t.locks.classes, t.locks.keys, t.locks.sockets, t.locks.settings].map fun b =>
          if b then 1#8 else 0#8
  (∀ t : Tables,
      (configImage t).bytes = config t
        ∧ keysBytes t.keys =
          t.keys.toList.flatMap (fun k =>
            leBytes 4 k.k0.toNat ++ leBytes 4 k.k1.toNat ++ leBytes 4 k.k2.toNat ++ leBytes 4 k.k3.toNat)
        ∧ Section.judge parseKeys ⟨keysBytes t.keys, crc16 (keysBytes t.keys)⟩ = .loaded t.keys
        ∧ (t.sound → Section.judge parseConfig ⟨config t, crc16 (config t)⟩ = .loaded (configImage t)))
  ∧ (∀ k : KnownImage,
      k.bytes =
          BitVec.ofNat 8 k.entries.length
            :: (k.entries.flatMap Entry.form ++ leBytes 4 k.seed.toNat ++ leBytes 2 k.writeCount)
        ∧ ((k.entries.map Entry.serial).Nodup → k.entries.length ≤ 48 → k.writeCount ≤ 65535 →
            (∀ e ∈ k.entries,
              e.lastLevel.all (fun l => decide (l ≤ 4294967295)) = true ∧ e.unsettled ≤ 4294967295
                ∧ e.inDoubt.all (fun i => decide (i.amount ≤ 4294967295 ∧ i.preLevel ≤ 4294967295)) = true
                ∧ e.count ≤ 255 ∧ e.carried = none ∧ e.refurbished = false) →
              Section.judge parseKnown ⟨k.bytes, crc16 k.bytes⟩ = .loaded k))
  ∧ ∀ s : State, s.run = .running →
    let snapshot : State → Save := fun v =>
      { config := configImage v.tables
        keys := v.tables.keys
        known :=
          { entries := v.known.map fun e => { e with carried := none, refurbished := false }
            seed := v.nonce
            writeCount := min (v.store.writeCount + 1) 65535 }
        writing := .config }
    (∀ r : Request, s.offers r → r.code = 12#8 →
        exec .saveStore s = .next
          (State.serve (State.finish
            (if r.args ≠ [] then s.answered r .range []
            else if s.store.save.isSome then s.answered r .busy []
            else { s.answered r .queued [] with store := { s.store with save := some (snapshot s) } }))))
      ∧ exec .sectionWritten s = .next
          (match s.store.save with
            | some ⟨config, keys, known, .config⟩ =>
              { s with
                store :=
                  { s.store with
                    config := ⟨config.bytes, crc16 config.bytes⟩
                    save := some ⟨config, keys, known, .keys⟩ } }
            | some ⟨config, keys, known, .keys⟩ =>
              { s with
                store :=
                  { s.store with
                    keys := ⟨keysBytes keys, crc16 (keysBytes keys)⟩
                    save := some ⟨config, keys, known, .known⟩ } }
            | _ => s)
      ∧ exec .saveComplete s = .next
          (match s.store.save with
            | some ⟨_, _, known, .known⟩ =>
              let v : State :=
                { s with
                  store :=
                    { s.store with
                      known := ⟨known.bytes, crc16 known.bytes⟩
                      writeCount := known.writeCount
                      save := none } }
              State.sendNext
                (match s.decoder.park with
                  | .parking .saving =>
                    { v with
                      decoder := { v.decoder with park := .parked }
                      events := EventUnit.raise .parked 0 0#32 v.events }
                  | .parking .waitingSave =>
                    { v with
                      decoder := { v.decoder with park := .parking .saving }
                      store := { v.store with save := some (snapshot v) } }
                  | _ => v)
            | _ => s)
      ∧ (s.bindingsAgree →
          exec .parkingCopies s = .next
            (if s.decoder.park = .parking .commits
                ∧ ∀ n : Slot, (s.commit n).phase.code = 0#8 ∨ (s.commit n).phase.code = 3#8 then
              let v : State :=
                { s with
                  known := s.known.map fun e =>
                    match e.residence with
                    | none => e
                    | some n =>
                      { e with
                        lastLevel := (s.slot n).level.or e.lastLevel
                        unsettled := min (e.carried.getD 0 + (s.slot n).pendingDebit) 4294967295
                        inDoubt :=
                          match (s.commit n).phase with
                          | .inDoubt d pre => some ⟨d, pre⟩
                          | _ => e.inDoubt } }
              if s.store.save.isSome then { v with decoder := { v.decoder with park := .parking .waitingSave } }
              else
                { v with
                  decoder := { v.decoder with park := .parking .saving }
                  store := { v.store with save := some (snapshot v) } }
            else s))
end

