-- ==== Sys2Proof/Laws/State.lean ====
section
/-! SUPPORT. One lemma for each field of State under each update: what the update sets it to, or that it leaves it. All are
true by `rfl` and in the simp set, so that no proof unfolds a record update. -/

namespace Sys2Proof.Machine

/-! ### State.onLink -/

@[simp] theorem State.onLink_run (s : State) (f : Link → Link) : (s.onLink f).run = s.run := rfl
@[simp] theorem State.onLink_cause (s : State) (f : Link → Link) : (s.onLink f).cause = s.cause := rfl
@[simp] theorem State.onLink_present (s : State) (f : Link → Link) : (s.onLink f).present = s.present := rfl
@[simp] theorem State.onLink_busLow (s : State) (f : Link → Link) : (s.onLink f).busLow = s.busLow := rfl
@[simp] theorem State.onLink_link (s : State) (f : Link → Link) : (s.onLink f).link = f s.link := rfl
@[simp] theorem State.onLink_swath (s : State) (f : Link → Link) : (s.onLink f).swath = s.swath := rfl
@[simp] theorem State.onLink_heads (s : State) (f : Link → Link) : (s.onLink f).heads = s.heads := rfl
@[simp] theorem State.onLink_residue (s : State) (f : Link → Link) : (s.onLink f).residue = s.residue := rfl
@[simp] theorem State.onLink_slots (s : State) (f : Link → Link) : (s.onLink f).slots = s.slots := rfl
@[simp] theorem State.onLink_bus (s : State) (f : Link → Link) : (s.onLink f).bus = s.bus := rfl
@[simp] theorem State.onLink_nonce (s : State) (f : Link → Link) : (s.onLink f).nonce = s.nonce := rfl
@[simp] theorem State.onLink_commits (s : State) (f : Link → Link) : (s.onLink f).commits = s.commits := rfl
@[simp] theorem State.onLink_known (s : State) (f : Link → Link) : (s.onLink f).known = s.known := rfl
@[simp] theorem State.onLink_decoder (s : State) (f : Link → Link) : (s.onLink f).decoder = s.decoder := rfl
@[simp] theorem State.onLink_tables (s : State) (f : Link → Link) : (s.onLink f).tables = s.tables := rfl
@[simp] theorem State.onLink_events (s : State) (f : Link → Link) : (s.onLink f).events = s.events := rfl
@[simp] theorem State.onLink_store (s : State) (f : Link → Link) : (s.onLink f).store = s.store := rfl
@[simp] theorem State.onLink_pending (s : State) (f : Link → Link) : (s.onLink f).pending = s.pending := rfl

/-! ### State.onSwath -/

@[simp] theorem State.onSwath_run (s : State) (f : SwathPath → SwathPath) : (s.onSwath f).run = s.run := rfl
@[simp] theorem State.onSwath_cause (s : State) (f : SwathPath → SwathPath) : (s.onSwath f).cause = s.cause := rfl
@[simp] theorem State.onSwath_present (s : State) (f : SwathPath → SwathPath) : (s.onSwath f).present = s.present :=
  rfl
@[simp] theorem State.onSwath_busLow (s : State) (f : SwathPath → SwathPath) : (s.onSwath f).busLow = s.busLow := rfl
@[simp] theorem State.onSwath_link (s : State) (f : SwathPath → SwathPath) : (s.onSwath f).link = s.link := rfl
@[simp] theorem State.onSwath_swath (s : State) (f : SwathPath → SwathPath) : (s.onSwath f).swath = f s.swath := rfl
@[simp] theorem State.onSwath_heads (s : State) (f : SwathPath → SwathPath) : (s.onSwath f).heads = s.heads := rfl
@[simp] theorem State.onSwath_residue (s : State) (f : SwathPath → SwathPath) : (s.onSwath f).residue = s.residue :=
  rfl
@[simp] theorem State.onSwath_slots (s : State) (f : SwathPath → SwathPath) : (s.onSwath f).slots = s.slots := rfl
@[simp] theorem State.onSwath_bus (s : State) (f : SwathPath → SwathPath) : (s.onSwath f).bus = s.bus := rfl
@[simp] theorem State.onSwath_nonce (s : State) (f : SwathPath → SwathPath) : (s.onSwath f).nonce = s.nonce := rfl
@[simp] theorem State.onSwath_commits (s : State) (f : SwathPath → SwathPath) : (s.onSwath f).commits = s.commits :=
  rfl
@[simp] theorem State.onSwath_known (s : State) (f : SwathPath → SwathPath) : (s.onSwath f).known = s.known := rfl
@[simp] theorem State.onSwath_decoder (s : State) (f : SwathPath → SwathPath) : (s.onSwath f).decoder = s.decoder :=
  rfl
@[simp] theorem State.onSwath_tables (s : State) (f : SwathPath → SwathPath) : (s.onSwath f).tables = s.tables := rfl
@[simp] theorem State.onSwath_events (s : State) (f : SwathPath → SwathPath) : (s.onSwath f).events = s.events := rfl
@[simp] theorem State.onSwath_store (s : State) (f : SwathPath → SwathPath) : (s.onSwath f).store = s.store := rfl
@[simp] theorem State.onSwath_pending (s : State) (f : SwathPath → SwathPath) : (s.onSwath f).pending = s.pending :=
  rfl

/-! ### State.onHead -/

@[simp] theorem State.onHead_run (s : State) (h : Head) (f : HeadRecord → HeadRecord) : (s.onHead h f).run = s.run :=
  rfl
@[simp] theorem State.onHead_cause (s : State) (h : Head) (f : HeadRecord → HeadRecord) : (s.onHead h f).cause = s.cause :=
  rfl
@[simp] theorem State.onHead_present (s : State) (h : Head) (f : HeadRecord → HeadRecord) : (s.onHead h f).present = s.present :=
  rfl
@[simp] theorem State.onHead_busLow (s : State) (h : Head) (f : HeadRecord → HeadRecord) : (s.onHead h f).busLow = s.busLow :=
  rfl
@[simp] theorem State.onHead_link (s : State) (h : Head) (f : HeadRecord → HeadRecord) : (s.onHead h f).link = s.link :=
  rfl
@[simp] theorem State.onHead_swath (s : State) (h : Head) (f : HeadRecord → HeadRecord) : (s.onHead h f).swath = s.swath :=
  rfl
@[simp] theorem State.onHead_heads (s : State) (h : Head) (f : HeadRecord → HeadRecord) : (s.onHead h f).heads = changeAt s.heads h f :=
  rfl
@[simp] theorem State.onHead_residue (s : State) (h : Head) (f : HeadRecord → HeadRecord) : (s.onHead h f).residue = s.residue :=
  rfl
@[simp] theorem State.onHead_slots (s : State) (h : Head) (f : HeadRecord → HeadRecord) : (s.onHead h f).slots = s.slots :=
  rfl
@[simp] theorem State.onHead_bus (s : State) (h : Head) (f : HeadRecord → HeadRecord) : (s.onHead h f).bus = s.bus :=
  rfl
@[simp] theorem State.onHead_nonce (s : State) (h : Head) (f : HeadRecord → HeadRecord) : (s.onHead h f).nonce = s.nonce :=
  rfl
@[simp] theorem State.onHead_commits (s : State) (h : Head) (f : HeadRecord → HeadRecord) : (s.onHead h f).commits = s.commits :=
  rfl
@[simp] theorem State.onHead_known (s : State) (h : Head) (f : HeadRecord → HeadRecord) : (s.onHead h f).known = s.known :=
  rfl
@[simp] theorem State.onHead_decoder (s : State) (h : Head) (f : HeadRecord → HeadRecord) : (s.onHead h f).decoder = s.decoder :=
  rfl
@[simp] theorem State.onHead_tables (s : State) (h : Head) (f : HeadRecord → HeadRecord) : (s.onHead h f).tables = s.tables :=
  rfl
@[simp] theorem State.onHead_events (s : State) (h : Head) (f : HeadRecord → HeadRecord) : (s.onHead h f).events = s.events :=
  rfl
@[simp] theorem State.onHead_store (s : State) (h : Head) (f : HeadRecord → HeadRecord) : (s.onHead h f).store = s.store :=
  rfl
@[simp] theorem State.onHead_pending (s : State) (h : Head) (f : HeadRecord → HeadRecord) : (s.onHead h f).pending = s.pending :=
  rfl

/-! ### State.setResidue -/

@[simp] theorem State.setResidue_run (s : State) (n : Slot) (r : Nat) : (s.setResidue n r).run = s.run := rfl
@[simp] theorem State.setResidue_cause (s : State) (n : Slot) (r : Nat) : (s.setResidue n r).cause = s.cause := rfl
@[simp] theorem State.setResidue_present (s : State) (n : Slot) (r : Nat) : (s.setResidue n r).present = s.present :=
  rfl
@[simp] theorem State.setResidue_busLow (s : State) (n : Slot) (r : Nat) : (s.setResidue n r).busLow = s.busLow := rfl
@[simp] theorem State.setResidue_link (s : State) (n : Slot) (r : Nat) : (s.setResidue n r).link = s.link := rfl
@[simp] theorem State.setResidue_swath (s : State) (n : Slot) (r : Nat) : (s.setResidue n r).swath = s.swath := rfl
@[simp] theorem State.setResidue_heads (s : State) (n : Slot) (r : Nat) : (s.setResidue n r).heads = s.heads := rfl
@[simp] theorem State.setResidue_residue (s : State) (n : Slot) (r : Nat) : (s.setResidue n r).residue = changeAt s.residue n fun _ => r :=
  rfl
@[simp] theorem State.setResidue_slots (s : State) (n : Slot) (r : Nat) : (s.setResidue n r).slots = s.slots := rfl
@[simp] theorem State.setResidue_bus (s : State) (n : Slot) (r : Nat) : (s.setResidue n r).bus = s.bus := rfl
@[simp] theorem State.setResidue_nonce (s : State) (n : Slot) (r : Nat) : (s.setResidue n r).nonce = s.nonce := rfl
@[simp] theorem State.setResidue_commits (s : State) (n : Slot) (r : Nat) : (s.setResidue n r).commits = s.commits :=
  rfl
@[simp] theorem State.setResidue_known (s : State) (n : Slot) (r : Nat) : (s.setResidue n r).known = s.known := rfl
@[simp] theorem State.setResidue_decoder (s : State) (n : Slot) (r : Nat) : (s.setResidue n r).decoder = s.decoder :=
  rfl
@[simp] theorem State.setResidue_tables (s : State) (n : Slot) (r : Nat) : (s.setResidue n r).tables = s.tables := rfl
@[simp] theorem State.setResidue_events (s : State) (n : Slot) (r : Nat) : (s.setResidue n r).events = s.events := rfl
@[simp] theorem State.setResidue_store (s : State) (n : Slot) (r : Nat) : (s.setResidue n r).store = s.store := rfl
@[simp] theorem State.setResidue_pending (s : State) (n : Slot) (r : Nat) : (s.setResidue n r).pending = s.pending :=
  rfl

/-! ### State.onSlot -/

@[simp] theorem State.onSlot_run (s : State) (n : Slot) (f : SlotRecord → SlotRecord) : (s.onSlot n f).run = s.run :=
  rfl
@[simp] theorem State.onSlot_cause (s : State) (n : Slot) (f : SlotRecord → SlotRecord) : (s.onSlot n f).cause = s.cause :=
  rfl
@[simp] theorem State.onSlot_present (s : State) (n : Slot) (f : SlotRecord → SlotRecord) : (s.onSlot n f).present = s.present :=
  rfl
@[simp] theorem State.onSlot_busLow (s : State) (n : Slot) (f : SlotRecord → SlotRecord) : (s.onSlot n f).busLow = s.busLow :=
  rfl
@[simp] theorem State.onSlot_link (s : State) (n : Slot) (f : SlotRecord → SlotRecord) : (s.onSlot n f).link = s.link :=
  rfl
@[simp] theorem State.onSlot_swath (s : State) (n : Slot) (f : SlotRecord → SlotRecord) : (s.onSlot n f).swath = s.swath :=
  rfl
@[simp] theorem State.onSlot_heads (s : State) (n : Slot) (f : SlotRecord → SlotRecord) : (s.onSlot n f).heads = s.heads :=
  rfl
@[simp] theorem State.onSlot_residue (s : State) (n : Slot) (f : SlotRecord → SlotRecord) : (s.onSlot n f).residue = s.residue :=
  rfl
@[simp] theorem State.onSlot_slots (s : State) (n : Slot) (f : SlotRecord → SlotRecord) : (s.onSlot n f).slots = changeAt s.slots n f :=
  rfl
@[simp] theorem State.onSlot_bus (s : State) (n : Slot) (f : SlotRecord → SlotRecord) : (s.onSlot n f).bus = s.bus :=
  rfl
@[simp] theorem State.onSlot_nonce (s : State) (n : Slot) (f : SlotRecord → SlotRecord) : (s.onSlot n f).nonce = s.nonce :=
  rfl
@[simp] theorem State.onSlot_commits (s : State) (n : Slot) (f : SlotRecord → SlotRecord) : (s.onSlot n f).commits = s.commits :=
  rfl
@[simp] theorem State.onSlot_known (s : State) (n : Slot) (f : SlotRecord → SlotRecord) : (s.onSlot n f).known = s.known :=
  rfl
@[simp] theorem State.onSlot_decoder (s : State) (n : Slot) (f : SlotRecord → SlotRecord) : (s.onSlot n f).decoder = s.decoder :=
  rfl
@[simp] theorem State.onSlot_tables (s : State) (n : Slot) (f : SlotRecord → SlotRecord) : (s.onSlot n f).tables = s.tables :=
  rfl
@[simp] theorem State.onSlot_events (s : State) (n : Slot) (f : SlotRecord → SlotRecord) : (s.onSlot n f).events = s.events :=
  rfl
@[simp] theorem State.onSlot_store (s : State) (n : Slot) (f : SlotRecord → SlotRecord) : (s.onSlot n f).store = s.store :=
  rfl
@[simp] theorem State.onSlot_pending (s : State) (n : Slot) (f : SlotRecord → SlotRecord) : (s.onSlot n f).pending = s.pending :=
  rfl

/-! ### State.onBus -/

@[simp] theorem State.onBus_run (s : State) (f : Bus → Bus) : (s.onBus f).run = s.run := rfl
@[simp] theorem State.onBus_cause (s : State) (f : Bus → Bus) : (s.onBus f).cause = s.cause := rfl
@[simp] theorem State.onBus_present (s : State) (f : Bus → Bus) : (s.onBus f).present = s.present := rfl
@[simp] theorem State.onBus_busLow (s : State) (f : Bus → Bus) : (s.onBus f).busLow = s.busLow := rfl
@[simp] theorem State.onBus_link (s : State) (f : Bus → Bus) : (s.onBus f).link = s.link := rfl
@[simp] theorem State.onBus_swath (s : State) (f : Bus → Bus) : (s.onBus f).swath = s.swath := rfl
@[simp] theorem State.onBus_heads (s : State) (f : Bus → Bus) : (s.onBus f).heads = s.heads := rfl
@[simp] theorem State.onBus_residue (s : State) (f : Bus → Bus) : (s.onBus f).residue = s.residue := rfl
@[simp] theorem State.onBus_slots (s : State) (f : Bus → Bus) : (s.onBus f).slots = s.slots := rfl
@[simp] theorem State.onBus_bus (s : State) (f : Bus → Bus) : (s.onBus f).bus = f s.bus := rfl
@[simp] theorem State.onBus_nonce (s : State) (f : Bus → Bus) : (s.onBus f).nonce = s.nonce := rfl
@[simp] theorem State.onBus_commits (s : State) (f : Bus → Bus) : (s.onBus f).commits = s.commits := rfl
@[simp] theorem State.onBus_known (s : State) (f : Bus → Bus) : (s.onBus f).known = s.known := rfl
@[simp] theorem State.onBus_decoder (s : State) (f : Bus → Bus) : (s.onBus f).decoder = s.decoder := rfl
@[simp] theorem State.onBus_tables (s : State) (f : Bus → Bus) : (s.onBus f).tables = s.tables := rfl
@[simp] theorem State.onBus_events (s : State) (f : Bus → Bus) : (s.onBus f).events = s.events := rfl
@[simp] theorem State.onBus_store (s : State) (f : Bus → Bus) : (s.onBus f).store = s.store := rfl
@[simp] theorem State.onBus_pending (s : State) (f : Bus → Bus) : (s.onBus f).pending = s.pending := rfl

/-! ### State.onCommit -/

@[simp] theorem State.onCommit_run (s : State) (n : Slot) (f : CommitRecord → CommitRecord) : (s.onCommit n f).run = s.run :=
  rfl
@[simp] theorem State.onCommit_cause (s : State) (n : Slot) (f : CommitRecord → CommitRecord) : (s.onCommit n f).cause = s.cause :=
  rfl
@[simp] theorem State.onCommit_present (s : State) (n : Slot) (f : CommitRecord → CommitRecord) : (s.onCommit n f).present = s.present :=
  rfl
@[simp] theorem State.onCommit_busLow (s : State) (n : Slot) (f : CommitRecord → CommitRecord) : (s.onCommit n f).busLow = s.busLow :=
  rfl
@[simp] theorem State.onCommit_link (s : State) (n : Slot) (f : CommitRecord → CommitRecord) : (s.onCommit n f).link = s.link :=
  rfl
@[simp] theorem State.onCommit_swath (s : State) (n : Slot) (f : CommitRecord → CommitRecord) : (s.onCommit n f).swath = s.swath :=
  rfl
@[simp] theorem State.onCommit_heads (s : State) (n : Slot) (f : CommitRecord → CommitRecord) : (s.onCommit n f).heads = s.heads :=
  rfl
@[simp] theorem State.onCommit_residue (s : State) (n : Slot) (f : CommitRecord → CommitRecord) : (s.onCommit n f).residue = s.residue :=
  rfl
@[simp] theorem State.onCommit_slots (s : State) (n : Slot) (f : CommitRecord → CommitRecord) : (s.onCommit n f).slots = s.slots :=
  rfl
@[simp] theorem State.onCommit_bus (s : State) (n : Slot) (f : CommitRecord → CommitRecord) : (s.onCommit n f).bus = s.bus :=
  rfl
@[simp] theorem State.onCommit_nonce (s : State) (n : Slot) (f : CommitRecord → CommitRecord) : (s.onCommit n f).nonce = s.nonce :=
  rfl
@[simp] theorem State.onCommit_commits (s : State) (n : Slot) (f : CommitRecord → CommitRecord) : (s.onCommit n f).commits = { s.commits with records := changeAt s.commits.records n f } :=
  rfl
@[simp] theorem State.onCommit_known (s : State) (n : Slot) (f : CommitRecord → CommitRecord) : (s.onCommit n f).known = s.known :=
  rfl
@[simp] theorem State.onCommit_decoder (s : State) (n : Slot) (f : CommitRecord → CommitRecord) : (s.onCommit n f).decoder = s.decoder :=
  rfl
@[simp] theorem State.onCommit_tables (s : State) (n : Slot) (f : CommitRecord → CommitRecord) : (s.onCommit n f).tables = s.tables :=
  rfl
@[simp] theorem State.onCommit_events (s : State) (n : Slot) (f : CommitRecord → CommitRecord) : (s.onCommit n f).events = s.events :=
  rfl
@[simp] theorem State.onCommit_store (s : State) (n : Slot) (f : CommitRecord → CommitRecord) : (s.onCommit n f).store = s.store :=
  rfl
@[simp] theorem State.onCommit_pending (s : State) (n : Slot) (f : CommitRecord → CommitRecord) : (s.onCommit n f).pending = s.pending :=
  rfl

/-! ### State.setOrphan -/

@[simp] theorem State.setOrphan_run (s : State) (o : Option Orphan) : (s.setOrphan o).run = s.run := rfl
@[simp] theorem State.setOrphan_cause (s : State) (o : Option Orphan) : (s.setOrphan o).cause = s.cause := rfl
@[simp] theorem State.setOrphan_present (s : State) (o : Option Orphan) : (s.setOrphan o).present = s.present := rfl
@[simp] theorem State.setOrphan_busLow (s : State) (o : Option Orphan) : (s.setOrphan o).busLow = s.busLow := rfl
@[simp] theorem State.setOrphan_link (s : State) (o : Option Orphan) : (s.setOrphan o).link = s.link := rfl
@[simp] theorem State.setOrphan_swath (s : State) (o : Option Orphan) : (s.setOrphan o).swath = s.swath := rfl
@[simp] theorem State.setOrphan_heads (s : State) (o : Option Orphan) : (s.setOrphan o).heads = s.heads := rfl
@[simp] theorem State.setOrphan_residue (s : State) (o : Option Orphan) : (s.setOrphan o).residue = s.residue := rfl
@[simp] theorem State.setOrphan_slots (s : State) (o : Option Orphan) : (s.setOrphan o).slots = s.slots := rfl
@[simp] theorem State.setOrphan_bus (s : State) (o : Option Orphan) : (s.setOrphan o).bus = s.bus := rfl
@[simp] theorem State.setOrphan_nonce (s : State) (o : Option Orphan) : (s.setOrphan o).nonce = s.nonce := rfl
@[simp] theorem State.setOrphan_commits (s : State) (o : Option Orphan) : (s.setOrphan o).commits = { s.commits with orphan := o } :=
  rfl
@[simp] theorem State.setOrphan_known (s : State) (o : Option Orphan) : (s.setOrphan o).known = s.known := rfl
@[simp] theorem State.setOrphan_decoder (s : State) (o : Option Orphan) : (s.setOrphan o).decoder = s.decoder := rfl
@[simp] theorem State.setOrphan_tables (s : State) (o : Option Orphan) : (s.setOrphan o).tables = s.tables := rfl
@[simp] theorem State.setOrphan_events (s : State) (o : Option Orphan) : (s.setOrphan o).events = s.events := rfl
@[simp] theorem State.setOrphan_store (s : State) (o : Option Orphan) : (s.setOrphan o).store = s.store := rfl
@[simp] theorem State.setOrphan_pending (s : State) (o : Option Orphan) : (s.setOrphan o).pending = s.pending := rfl

/-! ### State.onKnown -/

@[simp] theorem State.onKnown_run (s : State) (f : List Entry → List Entry) : (s.onKnown f).run = s.run := rfl
@[simp] theorem State.onKnown_cause (s : State) (f : List Entry → List Entry) : (s.onKnown f).cause = s.cause := rfl
@[simp] theorem State.onKnown_present (s : State) (f : List Entry → List Entry) : (s.onKnown f).present = s.present :=
  rfl
@[simp] theorem State.onKnown_busLow (s : State) (f : List Entry → List Entry) : (s.onKnown f).busLow = s.busLow :=
  rfl
@[simp] theorem State.onKnown_link (s : State) (f : List Entry → List Entry) : (s.onKnown f).link = s.link := rfl
@[simp] theorem State.onKnown_swath (s : State) (f : List Entry → List Entry) : (s.onKnown f).swath = s.swath := rfl
@[simp] theorem State.onKnown_heads (s : State) (f : List Entry → List Entry) : (s.onKnown f).heads = s.heads := rfl
@[simp] theorem State.onKnown_residue (s : State) (f : List Entry → List Entry) : (s.onKnown f).residue = s.residue :=
  rfl
@[simp] theorem State.onKnown_slots (s : State) (f : List Entry → List Entry) : (s.onKnown f).slots = s.slots := rfl
@[simp] theorem State.onKnown_bus (s : State) (f : List Entry → List Entry) : (s.onKnown f).bus = s.bus := rfl
@[simp] theorem State.onKnown_nonce (s : State) (f : List Entry → List Entry) : (s.onKnown f).nonce = s.nonce := rfl
@[simp] theorem State.onKnown_commits (s : State) (f : List Entry → List Entry) : (s.onKnown f).commits = s.commits :=
  rfl
@[simp] theorem State.onKnown_known (s : State) (f : List Entry → List Entry) : (s.onKnown f).known = f s.known := rfl
@[simp] theorem State.onKnown_decoder (s : State) (f : List Entry → List Entry) : (s.onKnown f).decoder = s.decoder :=
  rfl
@[simp] theorem State.onKnown_tables (s : State) (f : List Entry → List Entry) : (s.onKnown f).tables = s.tables :=
  rfl
@[simp] theorem State.onKnown_events (s : State) (f : List Entry → List Entry) : (s.onKnown f).events = s.events :=
  rfl
@[simp] theorem State.onKnown_store (s : State) (f : List Entry → List Entry) : (s.onKnown f).store = s.store := rfl
@[simp] theorem State.onKnown_pending (s : State) (f : List Entry → List Entry) : (s.onKnown f).pending = s.pending :=
  rfl

/-! ### State.onDecoder -/

@[simp] theorem State.onDecoder_run (s : State) (f : Decoder → Decoder) : (s.onDecoder f).run = s.run := rfl
@[simp] theorem State.onDecoder_cause (s : State) (f : Decoder → Decoder) : (s.onDecoder f).cause = s.cause := rfl
@[simp] theorem State.onDecoder_present (s : State) (f : Decoder → Decoder) : (s.onDecoder f).present = s.present :=
  rfl
@[simp] theorem State.onDecoder_busLow (s : State) (f : Decoder → Decoder) : (s.onDecoder f).busLow = s.busLow := rfl
@[simp] theorem State.onDecoder_link (s : State) (f : Decoder → Decoder) : (s.onDecoder f).link = s.link := rfl
@[simp] theorem State.onDecoder_swath (s : State) (f : Decoder → Decoder) : (s.onDecoder f).swath = s.swath := rfl
@[simp] theorem State.onDecoder_heads (s : State) (f : Decoder → Decoder) : (s.onDecoder f).heads = s.heads := rfl
@[simp] theorem State.onDecoder_residue (s : State) (f : Decoder → Decoder) : (s.onDecoder f).residue = s.residue :=
  rfl
@[simp] theorem State.onDecoder_slots (s : State) (f : Decoder → Decoder) : (s.onDecoder f).slots = s.slots := rfl
@[simp] theorem State.onDecoder_bus (s : State) (f : Decoder → Decoder) : (s.onDecoder f).bus = s.bus := rfl
@[simp] theorem State.onDecoder_nonce (s : State) (f : Decoder → Decoder) : (s.onDecoder f).nonce = s.nonce := rfl
@[simp] theorem State.onDecoder_commits (s : State) (f : Decoder → Decoder) : (s.onDecoder f).commits = s.commits :=
  rfl
@[simp] theorem State.onDecoder_known (s : State) (f : Decoder → Decoder) : (s.onDecoder f).known = s.known := rfl
@[simp] theorem State.onDecoder_decoder (s : State) (f : Decoder → Decoder) : (s.onDecoder f).decoder = f s.decoder :=
  rfl
@[simp] theorem State.onDecoder_tables (s : State) (f : Decoder → Decoder) : (s.onDecoder f).tables = s.tables := rfl
@[simp] theorem State.onDecoder_events (s : State) (f : Decoder → Decoder) : (s.onDecoder f).events = s.events := rfl
@[simp] theorem State.onDecoder_store (s : State) (f : Decoder → Decoder) : (s.onDecoder f).store = s.store := rfl
@[simp] theorem State.onDecoder_pending (s : State) (f : Decoder → Decoder) : (s.onDecoder f).pending = s.pending :=
  rfl

/-! ### State.onTables -/

@[simp] theorem State.onTables_run (s : State) (f : Tables → Tables) : (s.onTables f).run = s.run := rfl
@[simp] theorem State.onTables_cause (s : State) (f : Tables → Tables) : (s.onTables f).cause = s.cause := rfl
@[simp] theorem State.onTables_present (s : State) (f : Tables → Tables) : (s.onTables f).present = s.present := rfl
@[simp] theorem State.onTables_busLow (s : State) (f : Tables → Tables) : (s.onTables f).busLow = s.busLow := rfl
@[simp] theorem State.onTables_link (s : State) (f : Tables → Tables) : (s.onTables f).link = s.link := rfl
@[simp] theorem State.onTables_swath (s : State) (f : Tables → Tables) : (s.onTables f).swath = s.swath := rfl
@[simp] theorem State.onTables_heads (s : State) (f : Tables → Tables) : (s.onTables f).heads = s.heads := rfl
@[simp] theorem State.onTables_residue (s : State) (f : Tables → Tables) : (s.onTables f).residue = s.residue := rfl
@[simp] theorem State.onTables_slots (s : State) (f : Tables → Tables) : (s.onTables f).slots = s.slots := rfl
@[simp] theorem State.onTables_bus (s : State) (f : Tables → Tables) : (s.onTables f).bus = s.bus := rfl
@[simp] theorem State.onTables_nonce (s : State) (f : Tables → Tables) : (s.onTables f).nonce = s.nonce := rfl
@[simp] theorem State.onTables_commits (s : State) (f : Tables → Tables) : (s.onTables f).commits = s.commits := rfl
@[simp] theorem State.onTables_known (s : State) (f : Tables → Tables) : (s.onTables f).known = s.known := rfl
@[simp] theorem State.onTables_decoder (s : State) (f : Tables → Tables) : (s.onTables f).decoder = s.decoder := rfl
@[simp] theorem State.onTables_tables (s : State) (f : Tables → Tables) : (s.onTables f).tables = f s.tables := rfl
@[simp] theorem State.onTables_events (s : State) (f : Tables → Tables) : (s.onTables f).events = s.events := rfl
@[simp] theorem State.onTables_store (s : State) (f : Tables → Tables) : (s.onTables f).store = s.store := rfl
@[simp] theorem State.onTables_pending (s : State) (f : Tables → Tables) : (s.onTables f).pending = s.pending := rfl

/-! ### State.onEvents -/

@[simp] theorem State.onEvents_run (s : State) (f : EventUnit → EventUnit) : (s.onEvents f).run = s.run := rfl
@[simp] theorem State.onEvents_cause (s : State) (f : EventUnit → EventUnit) : (s.onEvents f).cause = s.cause := rfl
@[simp] theorem State.onEvents_present (s : State) (f : EventUnit → EventUnit) : (s.onEvents f).present = s.present :=
  rfl
@[simp] theorem State.onEvents_busLow (s : State) (f : EventUnit → EventUnit) : (s.onEvents f).busLow = s.busLow :=
  rfl
@[simp] theorem State.onEvents_link (s : State) (f : EventUnit → EventUnit) : (s.onEvents f).link = s.link := rfl
@[simp] theorem State.onEvents_swath (s : State) (f : EventUnit → EventUnit) : (s.onEvents f).swath = s.swath := rfl
@[simp] theorem State.onEvents_heads (s : State) (f : EventUnit → EventUnit) : (s.onEvents f).heads = s.heads := rfl
@[simp] theorem State.onEvents_residue (s : State) (f : EventUnit → EventUnit) : (s.onEvents f).residue = s.residue :=
  rfl
@[simp] theorem State.onEvents_slots (s : State) (f : EventUnit → EventUnit) : (s.onEvents f).slots = s.slots := rfl
@[simp] theorem State.onEvents_bus (s : State) (f : EventUnit → EventUnit) : (s.onEvents f).bus = s.bus := rfl
@[simp] theorem State.onEvents_nonce (s : State) (f : EventUnit → EventUnit) : (s.onEvents f).nonce = s.nonce := rfl
@[simp] theorem State.onEvents_commits (s : State) (f : EventUnit → EventUnit) : (s.onEvents f).commits = s.commits :=
  rfl
@[simp] theorem State.onEvents_known (s : State) (f : EventUnit → EventUnit) : (s.onEvents f).known = s.known := rfl
@[simp] theorem State.onEvents_decoder (s : State) (f : EventUnit → EventUnit) : (s.onEvents f).decoder = s.decoder :=
  rfl
@[simp] theorem State.onEvents_tables (s : State) (f : EventUnit → EventUnit) : (s.onEvents f).tables = s.tables :=
  rfl
@[simp] theorem State.onEvents_events (s : State) (f : EventUnit → EventUnit) : (s.onEvents f).events = f s.events :=
  rfl
@[simp] theorem State.onEvents_store (s : State) (f : EventUnit → EventUnit) : (s.onEvents f).store = s.store := rfl
@[simp] theorem State.onEvents_pending (s : State) (f : EventUnit → EventUnit) : (s.onEvents f).pending = s.pending :=
  rfl

/-! ### State.onStore -/

@[simp] theorem State.onStore_run (s : State) (f : Store → Store) : (s.onStore f).run = s.run := rfl
@[simp] theorem State.onStore_cause (s : State) (f : Store → Store) : (s.onStore f).cause = s.cause := rfl
@[simp] theorem State.onStore_present (s : State) (f : Store → Store) : (s.onStore f).present = s.present := rfl
@[simp] theorem State.onStore_busLow (s : State) (f : Store → Store) : (s.onStore f).busLow = s.busLow := rfl
@[simp] theorem State.onStore_link (s : State) (f : Store → Store) : (s.onStore f).link = s.link := rfl
@[simp] theorem State.onStore_swath (s : State) (f : Store → Store) : (s.onStore f).swath = s.swath := rfl
@[simp] theorem State.onStore_heads (s : State) (f : Store → Store) : (s.onStore f).heads = s.heads := rfl
@[simp] theorem State.onStore_residue (s : State) (f : Store → Store) : (s.onStore f).residue = s.residue := rfl
@[simp] theorem State.onStore_slots (s : State) (f : Store → Store) : (s.onStore f).slots = s.slots := rfl
@[simp] theorem State.onStore_bus (s : State) (f : Store → Store) : (s.onStore f).bus = s.bus := rfl
@[simp] theorem State.onStore_nonce (s : State) (f : Store → Store) : (s.onStore f).nonce = s.nonce := rfl
@[simp] theorem State.onStore_commits (s : State) (f : Store → Store) : (s.onStore f).commits = s.commits := rfl
@[simp] theorem State.onStore_known (s : State) (f : Store → Store) : (s.onStore f).known = s.known := rfl
@[simp] theorem State.onStore_decoder (s : State) (f : Store → Store) : (s.onStore f).decoder = s.decoder := rfl
@[simp] theorem State.onStore_tables (s : State) (f : Store → Store) : (s.onStore f).tables = s.tables := rfl
@[simp] theorem State.onStore_events (s : State) (f : Store → Store) : (s.onStore f).events = s.events := rfl
@[simp] theorem State.onStore_store (s : State) (f : Store → Store) : (s.onStore f).store = f s.store := rfl
@[simp] theorem State.onStore_pending (s : State) (f : Store → Store) : (s.onStore f).pending = s.pending := rfl

/-! ### State.setLine -/

@[simp] theorem State.setLine_run (s : State) (n : Slot) (b : Bool) : (s.setLine n b).run = s.run := rfl
@[simp] theorem State.setLine_cause (s : State) (n : Slot) (b : Bool) : (s.setLine n b).cause = s.cause := rfl
@[simp] theorem State.setLine_present (s : State) (n : Slot) (b : Bool) : (s.setLine n b).present = changeAt s.present n fun _ => b :=
  rfl
@[simp] theorem State.setLine_busLow (s : State) (n : Slot) (b : Bool) : (s.setLine n b).busLow = s.busLow := rfl
@[simp] theorem State.setLine_link (s : State) (n : Slot) (b : Bool) : (s.setLine n b).link = s.link := rfl
@[simp] theorem State.setLine_swath (s : State) (n : Slot) (b : Bool) : (s.setLine n b).swath = s.swath := rfl
@[simp] theorem State.setLine_heads (s : State) (n : Slot) (b : Bool) : (s.setLine n b).heads = s.heads := rfl
@[simp] theorem State.setLine_residue (s : State) (n : Slot) (b : Bool) : (s.setLine n b).residue = s.residue := rfl
@[simp] theorem State.setLine_slots (s : State) (n : Slot) (b : Bool) : (s.setLine n b).slots = s.slots := rfl
@[simp] theorem State.setLine_bus (s : State) (n : Slot) (b : Bool) : (s.setLine n b).bus = s.bus := rfl
@[simp] theorem State.setLine_nonce (s : State) (n : Slot) (b : Bool) : (s.setLine n b).nonce = s.nonce := rfl
@[simp] theorem State.setLine_commits (s : State) (n : Slot) (b : Bool) : (s.setLine n b).commits = s.commits := rfl
@[simp] theorem State.setLine_known (s : State) (n : Slot) (b : Bool) : (s.setLine n b).known = s.known := rfl
@[simp] theorem State.setLine_decoder (s : State) (n : Slot) (b : Bool) : (s.setLine n b).decoder = s.decoder := rfl
@[simp] theorem State.setLine_tables (s : State) (n : Slot) (b : Bool) : (s.setLine n b).tables = s.tables := rfl
@[simp] theorem State.setLine_events (s : State) (n : Slot) (b : Bool) : (s.setLine n b).events = s.events := rfl
@[simp] theorem State.setLine_store (s : State) (n : Slot) (b : Bool) : (s.setLine n b).store = s.store := rfl
@[simp] theorem State.setLine_pending (s : State) (n : Slot) (b : Bool) : (s.setLine n b).pending = s.pending := rfl

/-! ### State.onNonce -/

@[simp] theorem State.onNonce_run (s : State) (f : Word → Word) : (s.onNonce f).run = s.run := rfl
@[simp] theorem State.onNonce_cause (s : State) (f : Word → Word) : (s.onNonce f).cause = s.cause := rfl
@[simp] theorem State.onNonce_present (s : State) (f : Word → Word) : (s.onNonce f).present = s.present := rfl
@[simp] theorem State.onNonce_busLow (s : State) (f : Word → Word) : (s.onNonce f).busLow = s.busLow := rfl
@[simp] theorem State.onNonce_link (s : State) (f : Word → Word) : (s.onNonce f).link = s.link := rfl
@[simp] theorem State.onNonce_swath (s : State) (f : Word → Word) : (s.onNonce f).swath = s.swath := rfl
@[simp] theorem State.onNonce_heads (s : State) (f : Word → Word) : (s.onNonce f).heads = s.heads := rfl
@[simp] theorem State.onNonce_residue (s : State) (f : Word → Word) : (s.onNonce f).residue = s.residue := rfl
@[simp] theorem State.onNonce_slots (s : State) (f : Word → Word) : (s.onNonce f).slots = s.slots := rfl
@[simp] theorem State.onNonce_bus (s : State) (f : Word → Word) : (s.onNonce f).bus = s.bus := rfl
@[simp] theorem State.onNonce_nonce (s : State) (f : Word → Word) : (s.onNonce f).nonce = f s.nonce := rfl
@[simp] theorem State.onNonce_commits (s : State) (f : Word → Word) : (s.onNonce f).commits = s.commits := rfl
@[simp] theorem State.onNonce_known (s : State) (f : Word → Word) : (s.onNonce f).known = s.known := rfl
@[simp] theorem State.onNonce_decoder (s : State) (f : Word → Word) : (s.onNonce f).decoder = s.decoder := rfl
@[simp] theorem State.onNonce_tables (s : State) (f : Word → Word) : (s.onNonce f).tables = s.tables := rfl
@[simp] theorem State.onNonce_events (s : State) (f : Word → Word) : (s.onNonce f).events = s.events := rfl
@[simp] theorem State.onNonce_store (s : State) (f : Word → Word) : (s.onNonce f).store = s.store := rfl
@[simp] theorem State.onNonce_pending (s : State) (f : Word → Word) : (s.onNonce f).pending = s.pending := rfl

/-! ### State.advanceNonce -/

@[simp] theorem State.advanceNonce_run (s : State) : s.advanceNonce.run = s.run := State.onNonce_run s _
@[simp] theorem State.advanceNonce_cause (s : State) : s.advanceNonce.cause = s.cause := State.onNonce_cause s _
@[simp] theorem State.advanceNonce_present (s : State) : s.advanceNonce.present = s.present :=
  State.onNonce_present s _
@[simp] theorem State.advanceNonce_busLow (s : State) : s.advanceNonce.busLow = s.busLow := State.onNonce_busLow s _
@[simp] theorem State.advanceNonce_link (s : State) : s.advanceNonce.link = s.link := State.onNonce_link s _
@[simp] theorem State.advanceNonce_swath (s : State) : s.advanceNonce.swath = s.swath := State.onNonce_swath s _
@[simp] theorem State.advanceNonce_heads (s : State) : s.advanceNonce.heads = s.heads := State.onNonce_heads s _
@[simp] theorem State.advanceNonce_residue (s : State) : s.advanceNonce.residue = s.residue :=
  State.onNonce_residue s _
@[simp] theorem State.advanceNonce_slots (s : State) : s.advanceNonce.slots = s.slots := State.onNonce_slots s _
@[simp] theorem State.advanceNonce_bus (s : State) : s.advanceNonce.bus = s.bus := State.onNonce_bus s _
@[simp] theorem State.advanceNonce_nonce (s : State) : s.advanceNonce.nonce = s.nonce + nonceStep :=
  State.onNonce_nonce s _
@[simp] theorem State.advanceNonce_commits (s : State) : s.advanceNonce.commits = s.commits :=
  State.onNonce_commits s _
@[simp] theorem State.advanceNonce_known (s : State) : s.advanceNonce.known = s.known := State.onNonce_known s _
@[simp] theorem State.advanceNonce_decoder (s : State) : s.advanceNonce.decoder = s.decoder :=
  State.onNonce_decoder s _
@[simp] theorem State.advanceNonce_tables (s : State) : s.advanceNonce.tables = s.tables := State.onNonce_tables s _
@[simp] theorem State.advanceNonce_events (s : State) : s.advanceNonce.events = s.events := State.onNonce_events s _
@[simp] theorem State.advanceNonce_store (s : State) : s.advanceNonce.store = s.store := State.onNonce_store s _
@[simp] theorem State.advanceNonce_pending (s : State) : s.advanceNonce.pending = s.pending :=
  State.onNonce_pending s _

/-! ### State.setWatch -/

@[simp] theorem State.setWatch_run (s : State) (n : Slot) (w : Watch) : (s.setWatch n w).run = s.run := rfl
@[simp] theorem State.setWatch_cause (s : State) (n : Slot) (w : Watch) : (s.setWatch n w).cause = s.cause := rfl
@[simp] theorem State.setWatch_present (s : State) (n : Slot) (w : Watch) : (s.setWatch n w).present = s.present :=
  rfl
@[simp] theorem State.setWatch_busLow (s : State) (n : Slot) (w : Watch) : (s.setWatch n w).busLow = s.busLow := rfl
@[simp] theorem State.setWatch_link (s : State) (n : Slot) (w : Watch) : (s.setWatch n w).link = s.link := rfl
@[simp] theorem State.setWatch_swath (s : State) (n : Slot) (w : Watch) : (s.setWatch n w).swath = s.swath := rfl
@[simp] theorem State.setWatch_heads (s : State) (n : Slot) (w : Watch) : (s.setWatch n w).heads = s.heads := rfl
@[simp] theorem State.setWatch_residue (s : State) (n : Slot) (w : Watch) : (s.setWatch n w).residue = s.residue :=
  rfl
@[simp] theorem State.setWatch_slots (s : State) (n : Slot) (w : Watch) : (s.setWatch n w).slots = s.slots := rfl
@[simp] theorem State.setWatch_bus (s : State) (n : Slot) (w : Watch) : (s.setWatch n w).bus = { s.bus with watches := changeAt s.bus.watches n fun _ => w } :=
  rfl
@[simp] theorem State.setWatch_nonce (s : State) (n : Slot) (w : Watch) : (s.setWatch n w).nonce = s.nonce := rfl
@[simp] theorem State.setWatch_commits (s : State) (n : Slot) (w : Watch) : (s.setWatch n w).commits = s.commits :=
  rfl
@[simp] theorem State.setWatch_known (s : State) (n : Slot) (w : Watch) : (s.setWatch n w).known = s.known := rfl
@[simp] theorem State.setWatch_decoder (s : State) (n : Slot) (w : Watch) : (s.setWatch n w).decoder = s.decoder :=
  rfl
@[simp] theorem State.setWatch_tables (s : State) (n : Slot) (w : Watch) : (s.setWatch n w).tables = s.tables := rfl
@[simp] theorem State.setWatch_events (s : State) (n : Slot) (w : Watch) : (s.setWatch n w).events = s.events := rfl
@[simp] theorem State.setWatch_store (s : State) (n : Slot) (w : Watch) : (s.setWatch n w).store = s.store := rfl
@[simp] theorem State.setWatch_pending (s : State) (n : Slot) (w : Watch) : (s.setWatch n w).pending = s.pending :=
  rfl

/-! ### State.raise -/

@[simp] theorem State.raise_run (s : State) (k : EventKind) (i : Nat) (d : Word) : (s.raise k i d).run = s.run := rfl
@[simp] theorem State.raise_cause (s : State) (k : EventKind) (i : Nat) (d : Word) : (s.raise k i d).cause = s.cause :=
  rfl
@[simp] theorem State.raise_present (s : State) (k : EventKind) (i : Nat) (d : Word) : (s.raise k i d).present = s.present :=
  rfl
@[simp] theorem State.raise_busLow (s : State) (k : EventKind) (i : Nat) (d : Word) : (s.raise k i d).busLow = s.busLow :=
  rfl
@[simp] theorem State.raise_link (s : State) (k : EventKind) (i : Nat) (d : Word) : (s.raise k i d).link = s.link :=
  rfl
@[simp] theorem State.raise_swath (s : State) (k : EventKind) (i : Nat) (d : Word) : (s.raise k i d).swath = s.swath :=
  rfl
@[simp] theorem State.raise_heads (s : State) (k : EventKind) (i : Nat) (d : Word) : (s.raise k i d).heads = s.heads :=
  rfl
@[simp] theorem State.raise_residue (s : State) (k : EventKind) (i : Nat) (d : Word) : (s.raise k i d).residue = s.residue :=
  rfl
@[simp] theorem State.raise_slots (s : State) (k : EventKind) (i : Nat) (d : Word) : (s.raise k i d).slots = s.slots :=
  rfl
@[simp] theorem State.raise_bus (s : State) (k : EventKind) (i : Nat) (d : Word) : (s.raise k i d).bus = s.bus := rfl
@[simp] theorem State.raise_nonce (s : State) (k : EventKind) (i : Nat) (d : Word) : (s.raise k i d).nonce = s.nonce :=
  rfl
@[simp] theorem State.raise_commits (s : State) (k : EventKind) (i : Nat) (d : Word) : (s.raise k i d).commits = s.commits :=
  rfl
@[simp] theorem State.raise_known (s : State) (k : EventKind) (i : Nat) (d : Word) : (s.raise k i d).known = s.known :=
  rfl
@[simp] theorem State.raise_decoder (s : State) (k : EventKind) (i : Nat) (d : Word) : (s.raise k i d).decoder = s.decoder :=
  rfl
@[simp] theorem State.raise_tables (s : State) (k : EventKind) (i : Nat) (d : Word) : (s.raise k i d).tables = s.tables :=
  rfl
@[simp] theorem State.raise_events (s : State) (k : EventKind) (i : Nat) (d : Word) : (s.raise k i d).events = EventUnit.raise k i d s.events :=
  rfl
@[simp] theorem State.raise_store (s : State) (k : EventKind) (i : Nat) (d : Word) : (s.raise k i d).store = s.store :=
  rfl
@[simp] theorem State.raise_pending (s : State) (k : EventKind) (i : Nat) (d : Word) : (s.raise k i d).pending = s.pending :=
  rfl

/-! ### State.raiseSlot -/

@[simp] theorem State.raiseSlot_run (s : State) (k : EventKind) (n : Slot) : (s.raiseSlot k n).run = s.run := rfl
@[simp] theorem State.raiseSlot_cause (s : State) (k : EventKind) (n : Slot) : (s.raiseSlot k n).cause = s.cause :=
  rfl
@[simp] theorem State.raiseSlot_present (s : State) (k : EventKind) (n : Slot) : (s.raiseSlot k n).present = s.present :=
  rfl
@[simp] theorem State.raiseSlot_busLow (s : State) (k : EventKind) (n : Slot) : (s.raiseSlot k n).busLow = s.busLow :=
  rfl
@[simp] theorem State.raiseSlot_link (s : State) (k : EventKind) (n : Slot) : (s.raiseSlot k n).link = s.link := rfl
@[simp] theorem State.raiseSlot_swath (s : State) (k : EventKind) (n : Slot) : (s.raiseSlot k n).swath = s.swath :=
  rfl
@[simp] theorem State.raiseSlot_heads (s : State) (k : EventKind) (n : Slot) : (s.raiseSlot k n).heads = s.heads :=
  rfl
@[simp] theorem State.raiseSlot_residue (s : State) (k : EventKind) (n : Slot) : (s.raiseSlot k n).residue = s.residue :=
  rfl
@[simp] theorem State.raiseSlot_slots (s : State) (k : EventKind) (n : Slot) : (s.raiseSlot k n).slots = s.slots :=
  rfl
@[simp] theorem State.raiseSlot_bus (s : State) (k : EventKind) (n : Slot) : (s.raiseSlot k n).bus = s.bus := rfl
@[simp] theorem State.raiseSlot_nonce (s : State) (k : EventKind) (n : Slot) : (s.raiseSlot k n).nonce = s.nonce :=
  rfl
@[simp] theorem State.raiseSlot_commits (s : State) (k : EventKind) (n : Slot) : (s.raiseSlot k n).commits = s.commits :=
  rfl
@[simp] theorem State.raiseSlot_known (s : State) (k : EventKind) (n : Slot) : (s.raiseSlot k n).known = s.known :=
  rfl
@[simp] theorem State.raiseSlot_decoder (s : State) (k : EventKind) (n : Slot) : (s.raiseSlot k n).decoder = s.decoder :=
  rfl
@[simp] theorem State.raiseSlot_tables (s : State) (k : EventKind) (n : Slot) : (s.raiseSlot k n).tables = s.tables :=
  rfl
@[simp] theorem State.raiseSlot_events (s : State) (k : EventKind) (n : Slot) : (s.raiseSlot k n).events = EventUnit.raise k n.val 0#32 s.events :=
  rfl
@[simp] theorem State.raiseSlot_store (s : State) (k : EventKind) (n : Slot) : (s.raiseSlot k n).store = s.store :=
  rfl
@[simp] theorem State.raiseSlot_pending (s : State) (k : EventKind) (n : Slot) : (s.raiseSlot k n).pending = s.pending :=
  rfl

/-! ### State.forward -/

@[simp] theorem State.forward_run (s : State) (fs : List Frame) : (s.forward fs).run = s.run := rfl
@[simp] theorem State.forward_cause (s : State) (fs : List Frame) : (s.forward fs).cause = s.cause := rfl
@[simp] theorem State.forward_present (s : State) (fs : List Frame) : (s.forward fs).present = s.present := rfl
@[simp] theorem State.forward_busLow (s : State) (fs : List Frame) : (s.forward fs).busLow = s.busLow := rfl
@[simp] theorem State.forward_link (s : State) (fs : List Frame) : (s.forward fs).link = { s.link with forward := s.link.forward ++ fs } :=
  rfl
@[simp] theorem State.forward_swath (s : State) (fs : List Frame) : (s.forward fs).swath = s.swath := rfl
@[simp] theorem State.forward_heads (s : State) (fs : List Frame) : (s.forward fs).heads = s.heads := rfl
@[simp] theorem State.forward_residue (s : State) (fs : List Frame) : (s.forward fs).residue = s.residue := rfl
@[simp] theorem State.forward_slots (s : State) (fs : List Frame) : (s.forward fs).slots = s.slots := rfl
@[simp] theorem State.forward_bus (s : State) (fs : List Frame) : (s.forward fs).bus = s.bus := rfl
@[simp] theorem State.forward_nonce (s : State) (fs : List Frame) : (s.forward fs).nonce = s.nonce := rfl
@[simp] theorem State.forward_commits (s : State) (fs : List Frame) : (s.forward fs).commits = s.commits := rfl
@[simp] theorem State.forward_known (s : State) (fs : List Frame) : (s.forward fs).known = s.known := rfl
@[simp] theorem State.forward_decoder (s : State) (fs : List Frame) : (s.forward fs).decoder = s.decoder := rfl
@[simp] theorem State.forward_tables (s : State) (fs : List Frame) : (s.forward fs).tables = s.tables := rfl
@[simp] theorem State.forward_events (s : State) (fs : List Frame) : (s.forward fs).events = s.events := rfl
@[simp] theorem State.forward_store (s : State) (fs : List Frame) : (s.forward fs).store = s.store := rfl
@[simp] theorem State.forward_pending (s : State) (fs : List Frame) : (s.forward fs).pending = s.pending := rfl

/-! ### State.setPark -/

@[simp] theorem State.setPark_run (s : State) (p : Park) : (s.setPark p).run = s.run := rfl
@[simp] theorem State.setPark_cause (s : State) (p : Park) : (s.setPark p).cause = s.cause := rfl
@[simp] theorem State.setPark_present (s : State) (p : Park) : (s.setPark p).present = s.present := rfl
@[simp] theorem State.setPark_busLow (s : State) (p : Park) : (s.setPark p).busLow = s.busLow := rfl
@[simp] theorem State.setPark_link (s : State) (p : Park) : (s.setPark p).link = s.link := rfl
@[simp] theorem State.setPark_swath (s : State) (p : Park) : (s.setPark p).swath = s.swath := rfl
@[simp] theorem State.setPark_heads (s : State) (p : Park) : (s.setPark p).heads = s.heads := rfl
@[simp] theorem State.setPark_residue (s : State) (p : Park) : (s.setPark p).residue = s.residue := rfl
@[simp] theorem State.setPark_slots (s : State) (p : Park) : (s.setPark p).slots = s.slots := rfl
@[simp] theorem State.setPark_bus (s : State) (p : Park) : (s.setPark p).bus = s.bus := rfl
@[simp] theorem State.setPark_nonce (s : State) (p : Park) : (s.setPark p).nonce = s.nonce := rfl
@[simp] theorem State.setPark_commits (s : State) (p : Park) : (s.setPark p).commits = s.commits := rfl
@[simp] theorem State.setPark_known (s : State) (p : Park) : (s.setPark p).known = s.known := rfl
@[simp] theorem State.setPark_decoder (s : State) (p : Park) : (s.setPark p).decoder = { s.decoder with park := p } :=
  rfl
@[simp] theorem State.setPark_tables (s : State) (p : Park) : (s.setPark p).tables = s.tables := rfl
@[simp] theorem State.setPark_events (s : State) (p : Park) : (s.setPark p).events = s.events := rfl
@[simp] theorem State.setPark_store (s : State) (p : Park) : (s.setPark p).store = s.store := rfl
@[simp] theorem State.setPark_pending (s : State) (p : Park) : (s.setPark p).pending = s.pending := rfl

/-! ### State.setReceiver -/

@[simp] theorem State.setReceiver_run (s : State) (r : Option (List Byte)) : (s.setReceiver r).run = s.run := rfl
@[simp] theorem State.setReceiver_cause (s : State) (r : Option (List Byte)) : (s.setReceiver r).cause = s.cause :=
  rfl
@[simp] theorem State.setReceiver_present (s : State) (r : Option (List Byte)) : (s.setReceiver r).present = s.present :=
  rfl
@[simp] theorem State.setReceiver_busLow (s : State) (r : Option (List Byte)) : (s.setReceiver r).busLow = s.busLow :=
  rfl
@[simp] theorem State.setReceiver_link (s : State) (r : Option (List Byte)) : (s.setReceiver r).link = { s.link with receiver := r } :=
  rfl
@[simp] theorem State.setReceiver_swath (s : State) (r : Option (List Byte)) : (s.setReceiver r).swath = s.swath :=
  rfl
@[simp] theorem State.setReceiver_heads (s : State) (r : Option (List Byte)) : (s.setReceiver r).heads = s.heads :=
  rfl
@[simp] theorem State.setReceiver_residue (s : State) (r : Option (List Byte)) : (s.setReceiver r).residue = s.residue :=
  rfl
@[simp] theorem State.setReceiver_slots (s : State) (r : Option (List Byte)) : (s.setReceiver r).slots = s.slots :=
  rfl
@[simp] theorem State.setReceiver_bus (s : State) (r : Option (List Byte)) : (s.setReceiver r).bus = s.bus := rfl
@[simp] theorem State.setReceiver_nonce (s : State) (r : Option (List Byte)) : (s.setReceiver r).nonce = s.nonce :=
  rfl
@[simp] theorem State.setReceiver_commits (s : State) (r : Option (List Byte)) : (s.setReceiver r).commits = s.commits :=
  rfl
@[simp] theorem State.setReceiver_known (s : State) (r : Option (List Byte)) : (s.setReceiver r).known = s.known :=
  rfl
@[simp] theorem State.setReceiver_decoder (s : State) (r : Option (List Byte)) : (s.setReceiver r).decoder = s.decoder :=
  rfl
@[simp] theorem State.setReceiver_tables (s : State) (r : Option (List Byte)) : (s.setReceiver r).tables = s.tables :=
  rfl
@[simp] theorem State.setReceiver_events (s : State) (r : Option (List Byte)) : (s.setReceiver r).events = s.events :=
  rfl
@[simp] theorem State.setReceiver_store (s : State) (r : Option (List Byte)) : (s.setReceiver r).store = s.store :=
  rfl
@[simp] theorem State.setReceiver_pending (s : State) (r : Option (List Byte)) : (s.setReceiver r).pending = s.pending :=
  rfl

/-! ### State.symbolArrives -/

@[simp] theorem State.symbolArrives_run (s : State) : s.symbolArrives.run = s.run := rfl
@[simp] theorem State.symbolArrives_cause (s : State) : s.symbolArrives.cause = s.cause := rfl
@[simp] theorem State.symbolArrives_present (s : State) : s.symbolArrives.present = s.present := rfl
@[simp] theorem State.symbolArrives_busLow (s : State) : s.symbolArrives.busLow = s.busLow := rfl
@[simp] theorem State.symbolArrives_link (s : State) : s.symbolArrives.link = { s.link with up := true, lossTimer := some s.tables.linkLossTime } :=
  rfl
@[simp] theorem State.symbolArrives_swath (s : State) : s.symbolArrives.swath = s.swath := rfl
@[simp] theorem State.symbolArrives_heads (s : State) : s.symbolArrives.heads = s.heads := rfl
@[simp] theorem State.symbolArrives_residue (s : State) : s.symbolArrives.residue = s.residue := rfl
@[simp] theorem State.symbolArrives_slots (s : State) : s.symbolArrives.slots = s.slots := rfl
@[simp] theorem State.symbolArrives_bus (s : State) : s.symbolArrives.bus = s.bus := rfl
@[simp] theorem State.symbolArrives_nonce (s : State) : s.symbolArrives.nonce = s.nonce := rfl
@[simp] theorem State.symbolArrives_commits (s : State) : s.symbolArrives.commits = s.commits := rfl
@[simp] theorem State.symbolArrives_known (s : State) : s.symbolArrives.known = s.known := rfl
@[simp] theorem State.symbolArrives_decoder (s : State) : s.symbolArrives.decoder = s.decoder := rfl
@[simp] theorem State.symbolArrives_tables (s : State) : s.symbolArrives.tables = s.tables := rfl
@[simp] theorem State.symbolArrives_events (s : State) : s.symbolArrives.events = s.events := rfl
@[simp] theorem State.symbolArrives_store (s : State) : s.symbolArrives.store = s.store := rfl
@[simp] theorem State.symbolArrives_pending (s : State) : s.symbolArrives.pending = s.pending := rfl

/-! ### State.popRequest -/

@[simp] theorem State.popRequest_run (s : State) : s.popRequest.run = s.run := rfl
@[simp] theorem State.popRequest_cause (s : State) : s.popRequest.cause = s.cause := rfl
@[simp] theorem State.popRequest_present (s : State) : s.popRequest.present = s.present := rfl
@[simp] theorem State.popRequest_busLow (s : State) : s.popRequest.busLow = s.busLow := rfl
@[simp] theorem State.popRequest_link (s : State) : s.popRequest.link = s.link := rfl
@[simp] theorem State.popRequest_swath (s : State) : s.popRequest.swath = s.swath := rfl
@[simp] theorem State.popRequest_heads (s : State) : s.popRequest.heads = s.heads := rfl
@[simp] theorem State.popRequest_residue (s : State) : s.popRequest.residue = s.residue := rfl
@[simp] theorem State.popRequest_slots (s : State) : s.popRequest.slots = s.slots := rfl
@[simp] theorem State.popRequest_bus (s : State) : s.popRequest.bus = s.bus := rfl
@[simp] theorem State.popRequest_nonce (s : State) : s.popRequest.nonce = s.nonce := rfl
@[simp] theorem State.popRequest_commits (s : State) : s.popRequest.commits = s.commits := rfl
@[simp] theorem State.popRequest_known (s : State) : s.popRequest.known = s.known := rfl
@[simp] theorem State.popRequest_decoder (s : State) : s.popRequest.decoder = { s.decoder with requests := s.decoder.requests.drop 1 } :=
  rfl
@[simp] theorem State.popRequest_tables (s : State) : s.popRequest.tables = s.tables := rfl
@[simp] theorem State.popRequest_events (s : State) : s.popRequest.events = s.events := rfl
@[simp] theorem State.popRequest_store (s : State) : s.popRequest.store = s.store := rfl
@[simp] theorem State.popRequest_pending (s : State) : s.popRequest.pending = s.pending := rfl

/-! ### State.startSave -/

@[simp] theorem State.startSave_run (s : State) : s.startSave.run = s.run := rfl
@[simp] theorem State.startSave_cause (s : State) : s.startSave.cause = s.cause := rfl
@[simp] theorem State.startSave_present (s : State) : s.startSave.present = s.present := rfl
@[simp] theorem State.startSave_busLow (s : State) : s.startSave.busLow = s.busLow := rfl
@[simp] theorem State.startSave_link (s : State) : s.startSave.link = s.link := rfl
@[simp] theorem State.startSave_swath (s : State) : s.startSave.swath = s.swath := rfl
@[simp] theorem State.startSave_heads (s : State) : s.startSave.heads = s.heads := rfl
@[simp] theorem State.startSave_residue (s : State) : s.startSave.residue = s.residue := rfl
@[simp] theorem State.startSave_slots (s : State) : s.startSave.slots = s.slots := rfl
@[simp] theorem State.startSave_bus (s : State) : s.startSave.bus = s.bus := rfl
@[simp] theorem State.startSave_nonce (s : State) : s.startSave.nonce = s.nonce := rfl
@[simp] theorem State.startSave_commits (s : State) : s.startSave.commits = s.commits := rfl
@[simp] theorem State.startSave_known (s : State) : s.startSave.known = s.known := rfl
@[simp] theorem State.startSave_decoder (s : State) : s.startSave.decoder = s.decoder := rfl
@[simp] theorem State.startSave_tables (s : State) : s.startSave.tables = s.tables := rfl
@[simp] theorem State.startSave_events (s : State) : s.startSave.events = s.events := rfl
@[simp] theorem State.startSave_store (s : State) : s.startSave.store = { s.store with save := some s.snapshot } :=
  rfl
@[simp] theorem State.startSave_pending (s : State) : s.startSave.pending = s.pending := rfl

/-! ### State.setHeadReceiver -/

@[simp] theorem State.setHeadReceiver_run (s : State) (r : Option (List Byte)) : (s.setHeadReceiver r).run = s.run := rfl
@[simp] theorem State.setHeadReceiver_cause (s : State) (r : Option (List Byte)) :
    (s.setHeadReceiver r).cause = s.cause := rfl
@[simp] theorem State.setHeadReceiver_present (s : State) (r : Option (List Byte)) :
    (s.setHeadReceiver r).present = s.present := rfl
@[simp] theorem State.setHeadReceiver_busLow (s : State) (r : Option (List Byte)) :
    (s.setHeadReceiver r).busLow = s.busLow := rfl
@[simp] theorem State.setHeadReceiver_link (s : State) (r : Option (List Byte)) :
    (s.setHeadReceiver r).link = { s.link with headReceiver := r } := rfl
@[simp] theorem State.setHeadReceiver_swath (s : State) (r : Option (List Byte)) :
    (s.setHeadReceiver r).swath = s.swath := rfl
@[simp] theorem State.setHeadReceiver_heads (s : State) (r : Option (List Byte)) :
    (s.setHeadReceiver r).heads = s.heads := rfl
@[simp] theorem State.setHeadReceiver_residue (s : State) (r : Option (List Byte)) :
    (s.setHeadReceiver r).residue = s.residue := rfl
@[simp] theorem State.setHeadReceiver_slots (s : State) (r : Option (List Byte)) :
    (s.setHeadReceiver r).slots = s.slots := rfl
@[simp] theorem State.setHeadReceiver_bus (s : State) (r : Option (List Byte)) : (s.setHeadReceiver r).bus = s.bus := rfl
@[simp] theorem State.setHeadReceiver_nonce (s : State) (r : Option (List Byte)) :
    (s.setHeadReceiver r).nonce = s.nonce := rfl
@[simp] theorem State.setHeadReceiver_commits (s : State) (r : Option (List Byte)) :
    (s.setHeadReceiver r).commits = s.commits := rfl
@[simp] theorem State.setHeadReceiver_known (s : State) (r : Option (List Byte)) :
    (s.setHeadReceiver r).known = s.known := rfl
@[simp] theorem State.setHeadReceiver_decoder (s : State) (r : Option (List Byte)) :
    (s.setHeadReceiver r).decoder = s.decoder := rfl
@[simp] theorem State.setHeadReceiver_tables (s : State) (r : Option (List Byte)) :
    (s.setHeadReceiver r).tables = s.tables := rfl
@[simp] theorem State.setHeadReceiver_events (s : State) (r : Option (List Byte)) :
    (s.setHeadReceiver r).events = s.events := rfl
@[simp] theorem State.setHeadReceiver_store (s : State) (r : Option (List Byte)) :
    (s.setHeadReceiver r).store = s.store := rfl
@[simp] theorem State.setHeadReceiver_pending (s : State) (r : Option (List Byte)) :
    (s.setHeadReceiver r).pending = s.pending := rfl

end Sys2Proof.Machine
end

