-- ==== Sys2Proof/Laws/Moves.lean ====
section
/-! SUPPORT. What the supply blocks can do, said once: the primitive changes (`Move`), and for each shared operation of
Gating, Metering, Asking, Known, Commit and Authentication the lemma that it is a sequence of them (`Moves`). What every
primitive change keeps, every operation keeps. -/

namespace Sys2Proof.Machine

-- One proof is elaborated at a time, so that few threads, each with its own stack, stand open at once.
set_option Elab.async false

/-- What binding and unbinding look at in an entry. -/
def Entry.place (e : Entry) : Word × Option Slot := (e.serial, e.residence)

/-- The primitive changes of the supply blocks. -/
inductive Move (s : State) : State → Prop
  /-- Latched actions tighten, or drop counts fall. -/
  | swath (w : SwathPath) (hd : w.descriptor = s.swath.descriptor) (ht : w.taken = s.swath.taken)
      (hc : ∀ i : LaneIndex, w.drops[i].total ≤ s.swath.drops[i].total)
      (ha : ∀ n : Slot, s.swath.latched[n].strictness ≤ w.latched[n].strictness)
      (hl : w.lastNumber = s.swath.lastNumber) (hr : w.refused = s.swath.refused) : Move s (s.onSwath fun _ => w)
  | residue (n : Slot) (r : Nat) (h : r < subUnits) : Move s (s.setResidue n r)
  /-- A slot's record changes, its binding kept and its pending debit in range. -/
  | slot (n : Slot) (f : SlotRecord → SlotRecord)
      (hp : (f (s.slot n)).pendingDebit ≤ max (s.slot n).pendingDebit maxNanolitres)
      (hb : (f (s.slot n)).binding = (s.slot n).binding) : Move s (s.onSlot n f)
  | commits (c : CommitUnit) : Move s { s with commits := c }
  /-- Entries change, their serials and residences kept. -/
  | known (f : List Entry → List Entry) (h : (f s.known).map Entry.place = s.known.map Entry.place) :
      Move s (s.onKnown f)
  | raise (k : EventKind) (i : Nat) (d : Word) (h : i < k.indices) : Move s (s.raise k i d)
  | place (n : Slot) (k : BusKind) : Move s (s.busPlace n k)
  | purge (n : Slot) : Move s (s.purge n)
  | watch (n : Slot) (w : Watch) : Move s (s.setWatch n w)
  | bind (n : Slot) (id : Identity) (c : Fin 16) (h : (s.slot n).binding = none)
      (hs : s.boundElsewhere id.serial n = false) : Move s (s.bindTo n id c)
  | unbind (n : Slot) : Move s ((s.writeAccount n).clearAccount n)

/-- A sequence of primitive changes. -/
inductive Moves (s : State) : State → Prop
  | refl : Moves s s
  | tail {t u : State} (h : Moves s t) (m : Move t u) : Moves s u

theorem Move.moves {s t : State} (m : Move s t) : Moves s t := .tail .refl m

theorem Moves.trans {s t u : State} (h : Moves s t) (g : Moves t u) : Moves s u := by
  induction g with
  | refl => exact h
  | tail _ m ih => exact .tail ih m

/-- What every primitive change keeps, a sequence of them keeps. -/
theorem Moves.keeps {p : State → Prop} (hp : ∀ s t, Move s t → p s → p t) {s t : State} (h : Moves s t) (hs : p s) :
    p t := by
  induction h with
  | refl => exact hs
  | tail _ m ih => exact hp _ _ m ih

/-- A field that every primitive change leaves, a sequence of them leaves. -/
theorem Moves.field {α : Type} {f : State → α} (hf : ∀ s t, Move s t → f t = f s) {s t : State} (h : Moves s t) :
    f t = f s := by
  induction h with
  | refl => rfl
  | tail _ m ih => exact (hf _ _ m).trans ih

theorem Moves.foldl {α : Type} {g : State → α → State} (hg : ∀ s a, Moves s (g s a)) (l : List α) (s : State) :
    Moves s (l.foldl g s) := by
  induction l generalizing s with
  | nil => exact .refl
  | cons a l ih => exact (hg s a).trans (ih _)

/-! ### What no move touches -/

theorem writeAccount_eq (s : State) (n : Slot) : ∃ f, s.writeAccount n = s.onKnown f := by
  unfold State.writeAccount State.onBoundEntry
  split
  · exact ⟨_, rfl⟩
  · exact ⟨id, rfl⟩

theorem busPlace_eq (s : State) (n : Slot) (k : BusKind) : ∃ q, s.busPlace n k = s.onBus fun b => { b with queue := q } := by
  unfold State.busPlace
  split
  · exact ⟨s.bus.queue, rfl⟩
  · exact ⟨_, rfl⟩

/-- The fields that the supply blocks never touch. -/
structure State.Elsewhere where
  run : RunPhase
  cause : ResetCause
  present : Vector Bool 12
  busLow : Bool
  link : Link
  heads : Vector HeadRecord 4
  nonce : Word
  decoder : Decoder
  tables : Tables
  store : Store
  pending : List Instr

/-- What the supply blocks never touch. -/
def State.elsewhere (s : State) : State.Elsewhere :=
  ⟨s.run, s.cause, s.present, s.busLow, s.link, s.heads, s.nonce, s.decoder, s.tables, s.store, s.pending⟩

theorem Move.elsewhere {s t : State} (m : Move s t) : t.elsewhere = s.elsewhere := by
  cases m with
  | place n k => obtain ⟨q, h⟩ := busPlace_eq s n k; rw [h]; rfl
  | unbind n => obtain ⟨f, h⟩ := writeAccount_eq s n; rw [h]; rfl
  | _ => rfl

theorem Moves.elsewhere {s t : State} (h : Moves s t) : t.elsewhere = s.elsewhere :=
  h.field fun _ _ m => m.elsewhere

theorem Moves.run {s t : State} (h : Moves s t) : t.run = s.run := congrArg (·.run) h.elsewhere
theorem Moves.cause {s t : State} (h : Moves s t) : t.cause = s.cause := congrArg (·.cause) h.elsewhere
theorem Moves.present {s t : State} (h : Moves s t) : t.present = s.present := congrArg (·.present) h.elsewhere
theorem Moves.busLow {s t : State} (h : Moves s t) : t.busLow = s.busLow := congrArg (·.busLow) h.elsewhere
theorem Moves.link {s t : State} (h : Moves s t) : t.link = s.link := congrArg (·.link) h.elsewhere
theorem Moves.heads {s t : State} (h : Moves s t) : t.heads = s.heads := congrArg (·.heads) h.elsewhere
theorem Moves.nonce {s t : State} (h : Moves s t) : t.nonce = s.nonce := congrArg (·.nonce) h.elsewhere
theorem Moves.decoder {s t : State} (h : Moves s t) : t.decoder = s.decoder := congrArg (·.decoder) h.elsewhere
theorem Moves.tables {s t : State} (h : Moves s t) : t.tables = s.tables := congrArg (·.tables) h.elsewhere
theorem Moves.store {s t : State} (h : Moves s t) : t.store = s.store := congrArg (·.store) h.elsewhere
theorem Moves.pending {s t : State} (h : Moves s t) : t.pending = s.pending := congrArg (·.pending) h.elsewhere

end Sys2Proof.Machine
end

