-- ==== Sys2Proof/Laws/SupplyMoves.lean ====
section
/-! SUPPORT. Every shared operation of the supply blocks is a sequence of primitive changes: one lemma for each. -/

namespace Sys2Proof.Machine

-- One proof is elaborated at a time, so that few threads, each with its own stack, stand open at once.
set_option Elab.async false

/-! ### Primitive steps in the forms the operations use -/

theorem moves_raiseSlot (s : State) (k : EventKind) (n : Slot) (h : k.indices = 12 := by rfl) : Moves s (s.raiseSlot k n) :=
  (Move.raise k n.val 0#32 (by rw [h]; exact n.isLt)).moves

theorem strictness_stricter (a b : Action) : a.strictness ≤ (a.stricter b).strictness := by
  cases a <;> cases b <;> decide

/-- A change of the Swath Path that keeps the descriptor and the columns taken, raises no drop count and loosens no latched
action. -/
theorem moves_swath (s : State) (f : SwathPath → SwathPath)
    (hc : ∀ i : LaneIndex, (f s.swath).drops[i].total ≤ s.swath.drops[i].total)
    (ha : ∀ n : Slot, s.swath.latched[n].strictness ≤ (f s.swath).latched[n].strictness)
    (hd : (f s.swath).descriptor = s.swath.descriptor := by rfl) (ht : (f s.swath).taken = s.swath.taken := by rfl)
    (hl : (f s.swath).lastNumber = s.swath.lastNumber := by rfl) (hr : (f s.swath).refused = s.swath.refused := by rfl) :
    Moves s (s.onSwath f) :=
  (Move.swath (f s.swath) hd ht hc ha hl hr).moves

theorem moves_watch (s : State) (n : Slot) (w : Watch) : Moves s (s.setWatch n w) := (Move.watch n w).moves

/-- A change of a slot's record that leaves its binding and its pending debit. -/
theorem moves_slot (s : State) (n : Slot) (f : SlotRecord → SlotRecord)
    (hp : (f (s.slot n)).pendingDebit ≤ (s.slot n).pendingDebit := by exact le_refl _)
    (hb : (f (s.slot n)).binding = (s.slot n).binding := by rfl) : Moves s (s.onSlot n f) :=
  (Move.slot n f (hp.trans (le_max_left _ _)) hb).moves

theorem moves_commit (s : State) (n : Slot) (f : CommitRecord → CommitRecord) : Moves s (s.onCommit n f) :=
  (Move.commits _).moves

theorem moves_orphan (s : State) (o : Option Orphan) : Moves s (s.setOrphan o) := (Move.commits _).moves

/-- A change of the entries that hold a serial, each keeping its serial and residence. -/
theorem moves_entry (s : State) (serial : Word) (f : Entry → Entry)
    (h : ∀ e, (f e).place = e.place := by intro e; rfl) :
    Moves s (s.onEntry serial f) := by
  refine (Move.known _ ?_).moves
  rw [List.map_map]
  refine List.map_congr_left fun e _ => ?_
  simp only [Function.comp_apply]
  split
  · exact h e
  · rfl

theorem moves_boundEntry (s : State) (n : Slot) (f : Entry → Entry)
    (h : ∀ e, (f e).place = e.place := by intro e; rfl) :
    Moves s (s.onBoundEntry n f) := by
  unfold State.onBoundEntry
  split
  · exact moves_entry s _ f h
  · exact .refl

theorem moves_ite {s t u : State} {p : Prop} [Decidable p] (h : p → Moves s t) (g : ¬p → Moves s u) :
    Moves s (if p then t else u) := by
  split
  · exact h ‹_›
  · exact g ‹_›

/-! ### Gating and metering -/

theorem moves_reEvaluate (s : State) (n : Slot) : Moves s (s.reEvaluate n) :=
  moves_ite (fun _ => moves_swath s _ (fun _ => le_refl _) (fun m => by
    simp only [changeAt, Fin.getElem_fin, Vector.getElem_set]
    split
    · rename_i h
      simp only [h, strictness_stricter]
    · exact le_refl _)) fun _ => .refl

theorem moves_clearDrops (s : State) (n : Slot) : Moves s (s.clearDrops n) := by
  refine moves_swath s _ (fun i => ?_) fun _ => le_refl _
  simp only [Fin.getElem_fin, Vector.getElem_ofFn]
  split
  · exact Nat.zero_le _
  · exact le_refl _

theorem moves_recompute (s : State) (n : Slot) : Moves s (s.recompute n) := by
  unfold State.recompute
  dsimp only
  refine moves_ite (fun _ => .refl) fun _ => ?_
  refine Moves.trans ?_ (moves_reEvaluate _ n)
  split
  · rename_i k hk
    refine Moves.trans (moves_slot s n _) (moves_raiseSlot _ k n ?_)
    revert hk
    cases currentBand s.tables (s.slot n) <;> simp only [Band.event, Option.some.injEq, reduceCtorEq, false_imp_iff] <;>
      rintro rfl <;> rfl
  · exact moves_slot s n _

theorem moves_changeState (s : State) (n : Slot) (st : SlotState) : Moves s (s.changeState n st) :=
  ((moves_slot s n _).trans (moves_recompute _ n)).trans (moves_reEvaluate _ n)

theorem addHeld_le (a b : Nat) : addHeld a b ≤ maxNanolitres := min_le_right _ _

theorem moves_meterInto (s : State) (lines : List RecordLine) (n : Slot) : Moves s (s.meterInto lines n) := by
  unfold State.meterInto
  refine Moves.trans ?_ (moves_reEvaluate _ n)
  refine Moves.trans (t := s.setResidue n ((s.residue[n] + groupVolume s.tables lines) % subUnits))
    (Move.residue n _ (Nat.mod_lt _ (by decide))).moves ?_
  exact (Move.slot n _ ((addHeld_le _ _).trans (le_max_right _ _)) rfl).moves

theorem moves_meterGroup (record : List RecordLine) (s : State) (n : Slot) : Moves s (State.meterGroup record s n) := by
  unfold State.meterGroup
  exact moves_ite (fun _ => .refl) fun _ => (moves_meterInto _ _ n).trans (moves_recompute _ n)

theorem moves_meterRecord (s : State) (record : List RecordLine) : Moves s (s.meterRecord record) :=
  Moves.foldl (moves_meterGroup record) _ s

theorem moves_interimMetering (s : State) (n : Slot) : Moves s (s.interimMetering n) := by
  unfold State.interimMetering
  split
  · exact (moves_meterInto _ _ n).trans (moves_clearDrops _ n)
  · exact .refl

/-! ### Asking for supply work -/

theorem moves_place (s : State) (n : Slot) (k : BusKind) : Moves s (s.busPlace n k) := (Move.place n k).moves

theorem moves_askChallenge (s : State) (n : Slot) : Moves s (s.askChallenge n) := by
  unfold State.askChallenge
  split
  · exact moves_ite (fun _ => moves_place s n _) fun _ => (moves_slot s n _).trans (moves_place _ n _)
  · exact moves_ite (fun _ => moves_place s n _) fun _ => (moves_slot s n _).trans (moves_place _ n _)
  · exact moves_place s n _
  · exact .refl

theorem moves_commitByPhase (s : State) (cause : CommitCause) (n : Slot) : Moves s (s.commitByPhase cause n) := by
  unfold State.commitByPhase
  split
  · exact (moves_place s n _).trans (moves_commit _ n _)
  · exact moves_place s n _
  · exact moves_commit s n _
  · exact .refl
  · exact (moves_commit s n _).trans (moves_askChallenge _ n)
  · exact .refl

theorem moves_askCommit (s : State) (cause : CommitCause) (n : Slot) : Moves s (s.askCommit cause n) :=
  moves_ite (fun _ => moves_commitByPhase s cause n) fun _ => .refl

theorem moves_recheck (s : State) (n : Slot) : Moves s (s.recheck n) :=
  moves_ite (fun _ => moves_askCommit s .close n) fun _ => .refl

theorem moves_actFollowOn (s : State) (n : Slot) : Moves s (s.actFollowOn n) := by
  unfold State.actFollowOn
  refine moves_ite (fun _ => ?_) fun _ => .refl
  exact moves_ite (fun _ => moves_commit s n _) fun _ => (moves_commit s n _).trans (moves_askCommit _ _ n)

theorem moves_settleEnd (s : State) (n : Slot) : Moves s (s.settleEnd n) :=
  (moves_recheck s n).trans (moves_actFollowOn _ n)

theorem moves_countDown (s : State) (n : Slot) : Moves s (s.countDown n) := by
  unfold State.countDown
  refine moves_ite (fun _ => ?_) fun _ => .refl
  exact moves_ite (fun _ => (moves_slot s n _).trans (moves_askChallenge _ n))
    fun _ => moves_slot s n _

theorem moves_handOver (s : State) (d : Descriptor) : Moves s (s.handOver d) :=
  ((moves_meterRecord s _).trans (Moves.foldl moves_recheck _ _)).trans (Moves.foldl moves_countDown _ _)

/-! ### The Integrity Monitor -/

theorem moves_setMark (s : State) (serial : Word) : Moves s (s.setMark serial) := by
  unfold State.setMark
  dsimp only
  split
  · refine moves_ite (fun _ => ?_) fun _ => .refl
    split
    · refine Moves.trans ?_ (moves_raiseSlot _ _ _)
      exact moves_ite (fun _ => (moves_entry s serial _).trans (moves_changeState _ _ _)) fun _ => moves_entry s serial _
    · exact moves_entry s serial _
  · exact .refl

theorem moves_clearMark (s : State) (serial : Word) : Moves s (s.clearMark serial) := by
  unfold State.clearMark
  dsimp only
  split
  · refine moves_ite (fun _ => ?_) fun _ => .refl
    split
    · exact moves_ite (fun _ => (moves_entry s serial _).trans (moves_changeState _ _ _)) fun _ => moves_entry s serial _
    · exact moves_entry s serial _
  · exact .refl

theorem moves_settleMark (s : State) (serial : Word) : Moves s (s.settleMark serial) :=
  (moves_setMark s serial).trans (moves_clearMark _ serial)

theorem moves_addWeight (s : State) (serial : Word) (weight : Nat) : Moves s (s.addWeight serial weight) :=
  moves_ite (fun _ => .refl) fun _ => (moves_entry s serial _).trans (moves_setMark _ serial)

theorem moves_retestMarks (s : State) : Moves s s.retestMarks :=
  Moves.foldl (g := fun t (e : Entry) => t.settleMark e.serial) (fun t e => moves_settleMark t e.serial) _ s

theorem moves_bindingChecks (s : State) (found : Option Entry) (id : Identity) (ceiling : Nat) :
    Moves s (s.bindingChecks found id ceiling) := by
  unfold State.bindingChecks
  dsimp only
  refine Moves.trans ?_ (moves_ite (fun _ => moves_addWeight _ _ _) fun _ => .refl)
  split
  · refine moves_ite (fun _ => ?_) fun _ => moves_ite (fun _ => moves_addWeight _ _ _) fun _ => .refl
    exact moves_ite (fun _ => moves_addWeight _ _ _) fun _ => moves_entry _ _ _
  · exact .refl

theorem moves_endBinding (s : State) (serial : Word) (n : Slot) : Moves s (s.endBinding serial n) := by
  unfold State.endBinding
  dsimp only
  refine Moves.trans (moves_setMark s serial) ?_
  split
  · exact moves_ite (fun _ => moves_raiseSlot _ _ _) fun _ => .refl
  · exact .refl

theorem moves_checkLevel (s : State) (n : Slot) (b : Binding) (e : Entry) (first : Bool) (reported : Nat) :
    Moves s (s.checkLevel n b e first reported).2 := by
  unfold State.checkLevel
  dsimp only
  split
  · exact (moves_entry s _ _).trans (moves_slot _ n _)
  · have h (l : Nat) : Moves s (s.onSlot n fun r => { r with level := some l }) := moves_slot s n _
    have g (l : Nat) : Moves s (if first then (s.onSlot n fun r => { r with level := some l }).onEntry e.serial
        (raiseGeneration b.identity.generation) else s.onSlot n fun r => { r with level := some l }) :=
      moves_ite (fun _ => (h l).trans (moves_entry _ _ _)) fun _ => h l
    exact moves_ite (fun _ => (g _).trans (moves_raiseSlot _ _ _)) fun _ => g _

theorem moves_loadCarried (s : State) (n : Slot) (serial : Word) : Moves s (s.loadCarried n serial) := by
  unfold State.loadCarried
  refine Moves.trans (Moves.trans ?_ (moves_entry _ _ _)) (moves_reEvaluate _ n)
  exact (Move.slot n _ ((addHeld_le _ _).trans (le_max_right _ _)) rfl).moves

theorem moves_followLevel (s : State) (n : Slot) : Moves s (s.followLevel n) := by
  unfold State.followLevel
  split
  · exact moves_boundEntry s n _
  · exact .refl

theorem moves_markExhausted (s : State) (n : Slot) : Moves s (s.markExhausted n) :=
  moves_ite (fun _ => moves_boundEntry s n _) fun _ => .refl

theorem moves_adjustCount (s : State) (serial : Word) (finding : LevelFinding) :
    Moves s (s.adjustCount serial finding) :=
  moves_ite (fun _ => moves_entry s serial _) fun _ => moves_entry s serial _

theorem moves_judgeLevel (s : State) (n : Slot) (reported : Nat) : Moves s (s.judgeLevel n reported) := by
  unfold State.judgeLevel
  dsimp only
  split
  · exact .refl
  · split
    · exact .refl
    · refine Moves.trans (Moves.trans (Moves.trans ?_ (moves_adjustCount _ _ _)) (moves_settleMark _ _))
        (moves_recompute _ n)
      refine Moves.trans (Moves.trans ?_ (moves_followLevel _ n)) (moves_markExhausted _ n)
      exact (moves_checkLevel s n _ _ _ _).trans (moves_ite (fun _ => moves_loadCarried _ n _) fun _ => .refl)

theorem moves_checkConfirmation (s : State) (n : Slot) (newLevel : Nat) : Moves s (s.checkConfirmation n newLevel) := by
  unfold State.checkConfirmation
  split
  · exact moves_ite (fun _ => moves_raiseSlot _ _ _) fun _ => .refl
  · exact .refl

/-! ### The Commit Unit -/

theorem moves_lowerAccount (s : State) (n : Slot) (d : Nat) : Moves s (s.lowerAccount n d) := by
  unfold State.lowerAccount
  refine Moves.trans (Moves.trans (Moves.trans ?_ (moves_followLevel _ n)) (moves_markExhausted _ n)) (moves_reEvaluate _ n)
  exact moves_slot s n _ (by exact Nat.sub_le _ _)

theorem moves_commitIdle (s : State) (n : Slot) : Moves s (s.commitIdle n) := moves_commit s n _

theorem moves_confirmDebit (s : State) (n : Slot) (d newLevel : Nat) : Moves s (s.confirmDebit n d newLevel) :=
  ((((moves_lowerAccount s n d).trans (moves_commitIdle _ n)).trans (moves_checkConfirmation _ n newLevel)).trans
    (moves_recompute _ n)).trans (moves_settleEnd _ n)

theorem moves_mismatchDebit (s : State) (n : Slot) (d : Nat) (serial : Word) : Moves s (s.mismatchDebit n d serial) :=
  (((((moves_lowerAccount s n d).trans (moves_addWeight _ serial _)).trans (moves_commitIdle _ n)).trans
    (moves_askChallenge _ n)).trans (moves_recompute _ n)).trans (moves_settleEnd _ n)

theorem moves_doubtDebit (s : State) (n : Slot) (d preLevel : Nat) : Moves s (s.doubtDebit n d preLevel) :=
  ((moves_commit s n _).trans (moves_raiseSlot _ _ _)).trans (moves_askChallenge _ n)

theorem moves_settleOrphan (s : State) (o : Orphan) (outcome : BusOutcome) : Moves s (s.settleOrphan o outcome) := by
  unfold State.settleOrphan
  refine Moves.trans (moves_orphan s none) ?_
  split
  · refine moves_ite (fun _ => moves_entry _ _ _) fun _ => ?_
    exact (moves_entry _ _ _).trans (moves_addWeight _ _ _)
  · exact moves_raiseSlot _ _ _
  · exact moves_raiseSlot _ _ _

theorem moves_debitOutcome (s : State) (n : Slot) (outcome : BusOutcome) : Moves s (s.debitOutcome n outcome) := by
  unfold State.debitOutcome
  split
  · exact moves_settleOrphan s _ outcome
  · split
    · split
      · exact moves_ite (fun _ => moves_confirmDebit s n _ _) fun _ => moves_mismatchDebit s n _ _
      · exact moves_doubtDebit s n _ _
      · exact moves_doubtDebit s n _ _
    · exact .refl

theorem moves_resolve (s : State) (n : Slot) (r : Resolution) : Moves s (s.resolve n r) := by
  cases r with
  | nothing => exact .refl
  | slotApplied d =>
    exact ((moves_boundEntry s n _).trans (moves_lowerAccount _ n d)).trans (moves_commitIdle _ n)
  | slotNotApplied => exact (moves_boundEntry s n _).trans (moves_commitIdle _ n)
  | entryApplied d => exact moves_boundEntry s n _
  | entryNotApplied => exact moves_boundEntry s n _

theorem moves_resolutionEnd (s : State) (n : Slot) (r : Resolution) : Moves s (s.resolutionEnd n r) := by
  cases r with
  | slotApplied _ => exact moves_settleEnd s n
  | slotNotApplied => exact (moves_askCommit s .notApplied n).trans (moves_commit _ n _)
  | entryNotApplied => exact moves_askCommit s .notApplied n
  | nothing => exact .refl
  | entryApplied _ => exact .refl

theorem moves_unbindCommit (s : State) (n : Slot) : Moves s (s.unbindCommit n) := by
  unfold State.unbindCommit
  refine Moves.trans ?_ (moves_commit _ n _)
  split
  · exact (moves_boundEntry s n _).trans (moves_orphan _ _)
  · exact moves_boundEntry s n _
  · exact .refl

theorem moves_parkSlot (s : State) (n : Slot) : Moves s (s.parkSlot n) := by
  unfold State.parkSlot
  dsimp only
  have h : Moves s (s.onBoundEntry n (parkedEntry (s.slot n).level (s.slot n).pendingDebit)) := moves_boundEntry s n _
  split
  · exact h.trans (moves_boundEntry _ n _)
  · exact h

/-! ### The Authentication Unit -/

theorem moves_arrive (s : State) (n : Slot) : Moves s (s.arrive n) := by
  unfold State.arrive
  dsimp only
  have h : Moves s (s.setWatch n (.arriving s.tables.insertSettle)) := moves_watch s n _
  refine moves_ite (fun _ => ?_) fun _ => h
  have g := (h.trans (moves_changeState _ n .settling)).trans (moves_raiseSlot _ .inserted n)
  exact moves_ite (fun _ => g.trans (moves_clearDrops _ n)) fun _ => g

theorem moves_purge (s : State) (n : Slot) : Moves s (s.purge n) := (Move.purge n).moves

/-- Writing the account of a slot that is not bound changes nothing. -/
theorem writeAccount_unbound (s : State) (n : Slot) (h : (s.slot n).binding.isSome = false) : s.writeAccount n = s := by
  simp only [Option.isSome_eq_false_iff, Option.isNone_iff_eq_none] at h
  simp only [State.writeAccount, State.onBoundEntry, State.boundSerial, h, Option.map_none]

theorem moves_unbind (s : State) (n : Slot) (st : SlotState) : Moves s (s.unbind n st) := by
  unfold State.unbind
  refine Moves.trans (moves_interimMetering s n) (Moves.trans ?_ (moves_changeState _ n st))
  split
  · exact (moves_unbindCommit _ n).trans (Move.unbind n).moves
  · rename_i h
    simp only [Bool.not_eq_true] at h
    have m := (Move.unbind (s := s.interimMetering n) n).moves
    rwa [writeAccount_unbound _ n h] at m

theorem moves_leave (s : State) (n : Slot) : Moves s (s.leave n) := by
  unfold State.leave
  refine moves_ite (fun _ => .refl) fun _ => ?_
  exact ((moves_unbind s n _).trans (moves_slot _ n _)).trans (moves_raiseSlot _ _ _)

theorem moves_giveUp (s : State) (n : Slot) : Moves s (s.giveUp n) := by
  unfold State.giveUp
  exact (moves_ite (fun _ => moves_unbind s n _) fun _ => moves_changeState s n _).trans (moves_raiseSlot _ _ _)

theorem moves_holdOff (s : State) (n : Slot) : Moves s (s.holdOff n) :=
  ((moves_slot s n _).trans (moves_changeState _ n _)).trans (moves_raiseSlot _ _ _)

theorem moves_exhaust (s : State) (n : Slot) : Moves s (s.exhaust n) :=
  moves_ite (fun _ => moves_giveUp s n) fun _ => moves_holdOff s n

theorem moves_retry (s : State) (n : Slot) (k : BusKind) : Moves s (s.retry n k) := by
  unfold State.retry
  split
  · exact moves_askChallenge s n
  · exact moves_place s n _

theorem moves_fail (s : State) (n : Slot) (k : BusKind) : Moves s (s.fail n k) :=
  (moves_slot s n _).trans (moves_ite (fun _ => moves_retry _ n k) fun _ => moves_exhaust _ n)

theorem moves_reject (s : State) (n : Slot) (st : SlotState) : Moves s (s.reject n st) :=
  (moves_changeState s n st).trans (moves_raiseSlot _ _ _)

theorem moves_bind (s : State) (n : Slot) (id : Identity) (c : Fin 16) (h : (s.slot n).binding = none)
    (hs : s.boundElsewhere id.serial n = false) : Moves s (s.bind n id c) :=
  ((Move.bind n id c h hs).moves.trans (moves_bindingChecks _ _ _ _)).trans (moves_endBinding _ _ n)

theorem moves_settleBinding (s : State) (n : Slot) (id : Identity) (c : Fin 16) (reused : Bool) :
    Moves s (s.settleBinding n id c reused) :=
  moves_ite (fun _ => moves_reject s n _) fun _ => moves_ite (fun _ => moves_reject s n _) fun _ =>
    (moves_changeState s n _).trans (moves_askChallenge _ n)

theorem slot_onSlot (s : State) (n : Slot) (f : SlotRecord → SlotRecord) : (s.onSlot n f).slot n = f (s.slot n) := by
  simp only [State.slot, State.onSlot_slots, changeAt, Fin.getElem_fin, Vector.getElem_set_self]

theorem moves_identification (s : State) (n : Slot) (id : Identity) (h : (s.slot n).binding = none) :
    Moves s (s.identification n id) := by
  unfold State.identification
  have g : Moves s (s.onSlot n fun r => { r with attempts := 0 }) := moves_slot s n _
  split
  · exact g.trans (moves_reject _ n _)
  · split
    · exact g.trans (moves_reject _ n _)
    · rename_i hs
      refine (g.trans (moves_bind _ n id _ ?_ ?_)).trans (moves_settleBinding _ n id _ _)
      · rw [slot_onSlot]; exact h
      · exact Bool.eq_false_of_not_eq_true hs

theorem moves_reidentification (s : State) (n : Slot) (b : Binding) (id : Identity) :
    Moves s (s.reidentification n b id) :=
  moves_ite (fun _ => ((moves_slot s n _).trans (moves_changeState _ n _)).trans (moves_askChallenge _ n))
    fun _ => moves_fail s n _

theorem moves_identifyOutcome (s : State) (n : Slot) (outcome : BusOutcome) : Moves s (s.identifyOutcome n outcome) := by
  unfold State.identifyOutcome
  refine moves_ite (fun _ => ?_) fun _ => .refl
  split
  · split
    · exact moves_identification s n _ ‹_›
    · exact moves_reidentification s n _ _
  · exact moves_fail s n _
  · exact moves_retry s n _

theorem moves_enterProven (s : State) (n : Slot) : Moves s (s.enterProven n) :=
  moves_ite (fun _ => ((moves_raiseSlot s _ n).trans (moves_slot _ n _)).trans
    (moves_changeState _ n _)) fun _ => .refl

theorem moves_succeed (s : State) (n : Slot) (level : Nat) : Moves s (s.succeed n level) := by
  unfold State.succeed
  have h : Moves s (((((s.onSlot n fun r => { r with attempts := 0, round := 0 }).resolve n (s.resolution n level)).judgeLevel
      n level).enterProven n).onSlot n fun r => { r with countdown := s.tables.interval }) :=
    ((((moves_slot s n _).trans (moves_resolve _ n _)).trans (moves_judgeLevel _ n level)).trans
      (moves_enterProven _ n)).trans (moves_slot _ n _)
  exact moves_ite (fun _ => (h.trans (moves_resolutionEnd _ n _)).trans (moves_recheck _ n))
    fun _ => h.trans (moves_resolutionEnd _ n _)

theorem moves_challengeOutcome (s : State) (n : Slot) (nonce : Word) (outcome : BusOutcome) :
    Moves s (s.challengeOutcome n nonce outcome) := by
  unfold State.challengeOutcome
  refine moves_ite (fun _ => ?_) fun _ => .refl
  split
  · split
    · exact moves_ite (fun _ => moves_succeed s n _) fun _ => (moves_addWeight s _ _).trans (moves_fail _ n _)
    · exact .refl
  · exact moves_fail s n _
  · exact moves_retry s n _

/-- The delivery of an outcome (R87, R88). -/
theorem moves_deliver (s : State) (f : Flight) (outcome : BusOutcome) : Moves s (s.deliver f outcome) := by
  unfold State.deliver
  split
  · exact moves_debitOutcome s _ outcome
  · exact moves_ite (fun _ => .refl) fun _ => moves_identifyOutcome s _ outcome
  · exact moves_ite (fun _ => .refl) fun _ => moves_challengeOutcome s _ _ outcome

/-! ### Presence and the direct tables -/

theorem moves_linePresent (s : State) (n : Slot) : Moves s (s.linePresent n) := by
  unfold State.linePresent
  split
  · exact moves_arrive s n
  · exact moves_watch s n _
  · exact moves_watch s n _
  · exact .refl

theorem moves_lineAbsent (s : State) (n : Slot) : Moves s (s.lineAbsent n) := by
  unfold State.lineAbsent
  split
  · exact moves_watch s n _
  · exact moves_watch s n _
  · exact .refl

theorem moves_identify (s : State) (n : Slot) (allowance : Nat) : Moves s (s.identify n allowance) :=
  ((moves_changeState s n _).trans (moves_slot _ n _)).trans (moves_place _ n _)

theorem moves_seat (s : State) (n : Slot) : Moves s (s.seat n) :=
  (moves_watch _ n _).trans (moves_ite (fun _ => moves_identify _ n _) fun _ => .refl)

theorem moves_remove (s : State) (n : Slot) : Moves s (s.remove n) :=
  ((moves_watch _ n _).trans (moves_purge _ n)).trans (moves_leave _ n)

theorem moves_endHoldoff (s : State) (n : Slot) : Moves s (s.endHoldoff n) :=
  (moves_slot s n _).trans (moves_identify _ n _)

theorem moves_classLoaded (first written : Nat) (s : State) (n : Slot) :
    Moves s (State.classLoaded first written s n) := by
  unfold State.classLoaded
  split
  · refine moves_ite (fun _ => ?_) fun _ => .refl
    exact (((moves_slot s n _).trans (moves_followLevel _ n)).trans (moves_recompute _ n)).trans
      (moves_reEvaluate _ n)
  · exact .refl

theorem moves_disableSlot (s : State) (n : Slot) : Moves s (s.disableSlot n) := by
  have h : Moves s (((s.setWatch n .disabled).purge n).leave n) :=
    ((moves_watch _ n _).trans (moves_purge _ n)).trans (moves_leave _ n)
  unfold State.disableSlot
  split
  · exact h
  · exact h
  · exact h
  · exact moves_watch s n _

theorem moves_enableSlot (s : State) (n : Slot) : Moves s (s.enableSlot n) :=
  (moves_watch _ n _).trans (moves_ite (fun _ => moves_arrive _ n) fun _ => .refl)

theorem moves_socketLoaded (before : Vector SocketConfig 12) (s : State) (n : Slot) :
    Moves s (State.socketLoaded before s n) := by
  unfold State.socketLoaded
  split
  · exact moves_disableSlot s n
  · exact moves_enableSlot s n
  · exact .refl

theorem moves_settingsLoaded (s : State) : Moves s s.settingsLoaded :=
  (Moves.foldl moves_reEvaluate _ s).trans (moves_retestMarks _)

theorem moves_startArrival (s : State) (n : Slot) : Moves s (s.startArrival n) := by
  unfold State.startArrival
  split
  · exact moves_ite (fun _ => moves_arrive s n) fun _ => .refl
  · exact .refl

theorem moves_challengeProven (s : State) (n : Slot) : Moves s (s.challengeProven n) :=
  moves_ite (fun _ => moves_askChallenge s n) fun _ => .refl

end Sys2Proof.Machine
end

