-- ==== Sys2Proof/Laws/CommandEnds.lean ====
section
/-! SUPPORT. The ends of commands, said once: what the transmitters' beginnings, the consideration of the transaction queue,
the end of stage 1 of parking and a request's taking can change, as one equation each and as a lemma for each field they leave. -/

namespace Sys2Proof.Machine

-- One proof is elaborated at a time, so that few threads, each with its own stack, stand open at once.
set_option Elab.async false

/-! ### The transmitters -/

/-- HEAD OUT's beginning moves at most the oldest frame of the forward queue into a free transmitter. -/
theorem Link.beginDown_cases (l : Link) :
    l.beginDown = l ∨ ∃ f rest, l.downTx = none ∧ l.forward = f :: rest
      ∧ l.beginDown = { l with downTx := some f, forward := rest } := by
  unfold Link.beginDown
  split
  · exact .inr ⟨_, _, ‹_›, ‹_›, rfl⟩
  · exact .inl rfl

/-- FMT OUT's beginning does one of four things. -/
theorem beginUp_cases (s : State) :
    s.beginUp = s
      ∨ (∃ f rest, s.link.upTx = none ∧ s.link.replies = f :: rest
          ∧ s.beginUp = s.onLink fun l => { l with upTx := some f, replies := rest })
      ∨ (∃ f rest, s.link.upTx = none ∧ s.link.replies = [] ∧ s.link.passThrough = f :: rest
          ∧ s.beginUp = s.onLink fun l => { l with upTx := some f, passThrough := rest })
      ∨ (s.link.upTx = none ∧ s.link.replies = [] ∧ s.link.passThrough = [] ∧ s.events.noticeReady = true
          ∧ s.beginUp =
            (s.onLink fun l => { l with upTx := some (makeFrame .notice l.address s.events.noticePayload) }).onEvents
              fun u => { u with noticeReady := false }) := by
  unfold State.beginUp
  split
  · exact .inl rfl
  · split
    · exact .inr (.inl ⟨_, _, ‹_›, ‹_›, rfl⟩)
    · split
      · exact .inr (.inr (.inl ⟨_, _, ‹_›, ‹_›, ‹_›, rfl⟩))
      · split
        · exact .inr (.inr (.inr ⟨‹_›, ‹_›, ‹_›, ‹_›, rfl⟩))
        · exact .inl rfl

/-- FMT OUT's beginning touches the link and the Event Unit only. -/
theorem beginUp_eq (s : State) :
    ∃ l u, s.beginUp = (s.onLink fun _ => l).onEvents fun _ => u := by
  rcases beginUp_cases s with h | ⟨f, rest, _, _, h⟩ | ⟨f, rest, _, _, _, h⟩ | ⟨_, _, _, _, h⟩ <;> rw [h]
  · exact ⟨s.link, s.events, rfl⟩
  · exact ⟨{ s.link with upTx := some f, replies := rest }, s.events, rfl⟩
  · exact ⟨{ s.link with upTx := some f, passThrough := rest }, s.events, rfl⟩
  · exact ⟨_, _, rfl⟩

/-- The transmitters' beginnings touch the link and the Event Unit only. -/
theorem sendNext_eq (s : State) : ∃ l u, s.sendNext = (s.onLink fun _ => l).onEvents fun _ => u := by
  obtain ⟨l, u, h⟩ := beginUp_eq (s.onLink Link.beginDown)
  exact ⟨l, u, h⟩

@[simp] theorem State.beginUp_run (s : State) : (s.beginUp).run = s.run := by
  obtain ⟨_, _, h⟩ := beginUp_eq s; rw [h]; rfl
@[simp] theorem State.beginUp_cause (s : State) : (s.beginUp).cause = s.cause := by
  obtain ⟨_, _, h⟩ := beginUp_eq s; rw [h]; rfl
@[simp] theorem State.beginUp_present (s : State) : (s.beginUp).present = s.present := by
  obtain ⟨_, _, h⟩ := beginUp_eq s; rw [h]; rfl
@[simp] theorem State.beginUp_busLow (s : State) : (s.beginUp).busLow = s.busLow := by
  obtain ⟨_, _, h⟩ := beginUp_eq s; rw [h]; rfl
@[simp] theorem State.beginUp_swath (s : State) : (s.beginUp).swath = s.swath := by
  obtain ⟨_, _, h⟩ := beginUp_eq s; rw [h]; rfl
@[simp] theorem State.beginUp_heads (s : State) : (s.beginUp).heads = s.heads := by
  obtain ⟨_, _, h⟩ := beginUp_eq s; rw [h]; rfl
@[simp] theorem State.beginUp_residue (s : State) : (s.beginUp).residue = s.residue := by
  obtain ⟨_, _, h⟩ := beginUp_eq s; rw [h]; rfl
@[simp] theorem State.beginUp_slots (s : State) : (s.beginUp).slots = s.slots := by
  obtain ⟨_, _, h⟩ := beginUp_eq s; rw [h]; rfl
@[simp] theorem State.beginUp_bus (s : State) : (s.beginUp).bus = s.bus := by
  obtain ⟨_, _, h⟩ := beginUp_eq s; rw [h]; rfl
@[simp] theorem State.beginUp_nonce (s : State) : (s.beginUp).nonce = s.nonce := by
  obtain ⟨_, _, h⟩ := beginUp_eq s; rw [h]; rfl
@[simp] theorem State.beginUp_commits (s : State) : (s.beginUp).commits = s.commits := by
  obtain ⟨_, _, h⟩ := beginUp_eq s; rw [h]; rfl
@[simp] theorem State.beginUp_known (s : State) : (s.beginUp).known = s.known := by
  obtain ⟨_, _, h⟩ := beginUp_eq s; rw [h]; rfl
@[simp] theorem State.beginUp_decoder (s : State) : (s.beginUp).decoder = s.decoder := by
  obtain ⟨_, _, h⟩ := beginUp_eq s; rw [h]; rfl
@[simp] theorem State.beginUp_tables (s : State) : (s.beginUp).tables = s.tables := by
  obtain ⟨_, _, h⟩ := beginUp_eq s; rw [h]; rfl
@[simp] theorem State.beginUp_store (s : State) : (s.beginUp).store = s.store := by
  obtain ⟨_, _, h⟩ := beginUp_eq s; rw [h]; rfl
@[simp] theorem State.beginUp_pending (s : State) : (s.beginUp).pending = s.pending := by
  obtain ⟨_, _, h⟩ := beginUp_eq s; rw [h]; rfl

@[simp] theorem State.sendNext_run (s : State) : (s.sendNext).run = s.run := by
  obtain ⟨_, _, h⟩ := sendNext_eq s; rw [h]; rfl
@[simp] theorem State.sendNext_cause (s : State) : (s.sendNext).cause = s.cause := by
  obtain ⟨_, _, h⟩ := sendNext_eq s; rw [h]; rfl
@[simp] theorem State.sendNext_present (s : State) : (s.sendNext).present = s.present := by
  obtain ⟨_, _, h⟩ := sendNext_eq s; rw [h]; rfl
@[simp] theorem State.sendNext_busLow (s : State) : (s.sendNext).busLow = s.busLow := by
  obtain ⟨_, _, h⟩ := sendNext_eq s; rw [h]; rfl
@[simp] theorem State.sendNext_swath (s : State) : (s.sendNext).swath = s.swath := by
  obtain ⟨_, _, h⟩ := sendNext_eq s; rw [h]; rfl
@[simp] theorem State.sendNext_heads (s : State) : (s.sendNext).heads = s.heads := by
  obtain ⟨_, _, h⟩ := sendNext_eq s; rw [h]; rfl
@[simp] theorem State.sendNext_residue (s : State) : (s.sendNext).residue = s.residue := by
  obtain ⟨_, _, h⟩ := sendNext_eq s; rw [h]; rfl
@[simp] theorem State.sendNext_slots (s : State) : (s.sendNext).slots = s.slots := by
  obtain ⟨_, _, h⟩ := sendNext_eq s; rw [h]; rfl
@[simp] theorem State.sendNext_bus (s : State) : (s.sendNext).bus = s.bus := by
  obtain ⟨_, _, h⟩ := sendNext_eq s; rw [h]; rfl
@[simp] theorem State.sendNext_nonce (s : State) : (s.sendNext).nonce = s.nonce := by
  obtain ⟨_, _, h⟩ := sendNext_eq s; rw [h]; rfl
@[simp] theorem State.sendNext_commits (s : State) : (s.sendNext).commits = s.commits := by
  obtain ⟨_, _, h⟩ := sendNext_eq s; rw [h]; rfl
@[simp] theorem State.sendNext_known (s : State) : (s.sendNext).known = s.known := by
  obtain ⟨_, _, h⟩ := sendNext_eq s; rw [h]; rfl
@[simp] theorem State.sendNext_decoder (s : State) : (s.sendNext).decoder = s.decoder := by
  obtain ⟨_, _, h⟩ := sendNext_eq s; rw [h]; rfl
@[simp] theorem State.sendNext_tables (s : State) : (s.sendNext).tables = s.tables := by
  obtain ⟨_, _, h⟩ := sendNext_eq s; rw [h]; rfl
@[simp] theorem State.sendNext_store (s : State) : (s.sendNext).store = s.store := by
  obtain ⟨_, _, h⟩ := sendNext_eq s; rw [h]; rfl
@[simp] theorem State.sendNext_pending (s : State) : (s.sendNext).pending = s.pending := by
  obtain ⟨_, _, h⟩ := sendNext_eq s; rw [h]; rfl

/-! ### The transaction queue -/

/-- Putting a transaction in flight changes the bus only. -/
theorem putInFlight_eq (s : State) (n : Slot) (k : BusKind) (x : Word) (d : Nat) :
    ∃ b, s.putInFlight n k x d = { s with bus := b } ∧ b.watches = s.bus.watches ∧ b.queue = s.bus.queue :=
  ⟨_, rfl, rfl, rfl⟩

/-- Recording a flight changes the commit records only. -/
theorem recordFlight_eq (s : State) (n : Slot) (d : Nat) : ∃ c, s.recordFlight n d = { s with commits := c } := by
  unfold State.recordFlight
  split
  · exact ⟨_, rfl⟩
  · exact ⟨s.commits, rfl⟩

/-- The nonce register's advance changes that register only. -/
theorem advanceNonce_eq (s : State) : ∃ x, s.advanceNonce = { s with nonce := x } := ⟨_, rfl⟩

/-- A request that is taken changes the bus, the nonce register and the commit records only, and no watch. -/
theorem beginTransaction_eq (s : State) (r : BusRequest) :
    ∃ b x c, s.beginTransaction r = { s with bus := b, nonce := x, commits := c } ∧ b.watches = s.bus.watches
      ∧ b.queue = s.bus.queue := by
  obtain ⟨x, ha⟩ := advanceNonce_eq s
  unfold State.beginTransaction
  split
  · obtain ⟨b, h, hw, hq⟩ := putInFlight_eq s r.slot .identify 0#32 0
    exact ⟨b, s.nonce, s.commits, h, hw, hq⟩
  · rw [ha]
    exact ⟨_, x, s.commits, rfl, rfl, rfl⟩
  · dsimp only
    split
    · exact ⟨s.bus, s.nonce, _, rfl, rfl, rfl⟩
    · rw [ha]
      obtain ⟨c, h⟩ := recordFlight_eq { s with nonce := x } r.slot (s.debitAmount r.slot)
      rw [h]
      exact ⟨_, x, c, rfl, rfl, rfl⟩

/-- One taking does nothing, or removes the request that comes first and begins it. -/
theorem takeOne_cases (s : State) :
    s.takeOne = s
      ∨ ∃ r, s.bus.isFree = true ∧ nextRequest s.bus.queue = some r
          ∧ s.takeOne = (s.onBus fun b => { b with queue := b.queue.erase r }).beginTransaction r := by
  unfold State.takeOne
  split
  · split
    · exact .inr ⟨_, ‹_›, ‹_›, rfl⟩
    · exact .inl rfl
  · exact .inl rfl

theorem takeOne_eq (s : State) :
    ∃ b x c, s.takeOne = { s with bus := b, nonce := x, commits := c } ∧ b.watches = s.bus.watches := by
  rcases takeOne_cases s with h | ⟨r, _, _, h⟩
  · exact ⟨s.bus, s.nonce, s.commits, h, rfl⟩
  · obtain ⟨b, x, c, h', hw, _⟩ := beginTransaction_eq (s.onBus fun b => { b with queue := b.queue.erase r }) r
    exact ⟨b, x, c, h.trans h', hw⟩

theorem takeRequests_eq (k : Nat) (s : State) :
    ∃ b x c, s.takeRequests k = { s with bus := b, nonce := x, commits := c } ∧ b.watches = s.bus.watches := by
  induction k generalizing s with
  | zero => exact ⟨s.bus, s.nonce, s.commits, rfl, rfl⟩
  | succ k ih =>
    obtain ⟨b, x, c, h, hw⟩ := takeOne_eq s
    obtain ⟨b', x', c', h', hw'⟩ := ih s.takeOne
    refine ⟨b', x', c', ?_, ?_⟩
    · rw [State.takeRequests, h', h]
    · rw [hw', h]
      exact hw

/-- What every taking keeps, the consideration of the queue keeps. -/
theorem considerQueue_keeps {p : State → Prop} (hp : ∀ s, p s → p s.takeOne) (s : State) (hs : p s) : p s.considerQueue := by
  unfold State.considerQueue
  generalize s.bus.queue.length = k
  induction k generalizing s with
  | zero => exact hs
  | succ k ih => exact ih _ (hp s hs)

@[simp] theorem State.takeOne_run (s : State) : (s.takeOne).run = s.run := by
  obtain ⟨_, _, _, h, _⟩ := takeOne_eq s; rw [h]
@[simp] theorem State.takeOne_cause (s : State) : (s.takeOne).cause = s.cause := by
  obtain ⟨_, _, _, h, _⟩ := takeOne_eq s; rw [h]
@[simp] theorem State.takeOne_present (s : State) : (s.takeOne).present = s.present := by
  obtain ⟨_, _, _, h, _⟩ := takeOne_eq s; rw [h]
@[simp] theorem State.takeOne_busLow (s : State) : (s.takeOne).busLow = s.busLow := by
  obtain ⟨_, _, _, h, _⟩ := takeOne_eq s; rw [h]
@[simp] theorem State.takeOne_link (s : State) : (s.takeOne).link = s.link := by
  obtain ⟨_, _, _, h, _⟩ := takeOne_eq s; rw [h]
@[simp] theorem State.takeOne_swath (s : State) : (s.takeOne).swath = s.swath := by
  obtain ⟨_, _, _, h, _⟩ := takeOne_eq s; rw [h]
@[simp] theorem State.takeOne_heads (s : State) : (s.takeOne).heads = s.heads := by
  obtain ⟨_, _, _, h, _⟩ := takeOne_eq s; rw [h]
@[simp] theorem State.takeOne_residue (s : State) : (s.takeOne).residue = s.residue := by
  obtain ⟨_, _, _, h, _⟩ := takeOne_eq s; rw [h]
@[simp] theorem State.takeOne_slots (s : State) : (s.takeOne).slots = s.slots := by
  obtain ⟨_, _, _, h, _⟩ := takeOne_eq s; rw [h]
@[simp] theorem State.takeOne_known (s : State) : (s.takeOne).known = s.known := by
  obtain ⟨_, _, _, h, _⟩ := takeOne_eq s; rw [h]
@[simp] theorem State.takeOne_decoder (s : State) : (s.takeOne).decoder = s.decoder := by
  obtain ⟨_, _, _, h, _⟩ := takeOne_eq s; rw [h]
@[simp] theorem State.takeOne_tables (s : State) : (s.takeOne).tables = s.tables := by
  obtain ⟨_, _, _, h, _⟩ := takeOne_eq s; rw [h]
@[simp] theorem State.takeOne_events (s : State) : (s.takeOne).events = s.events := by
  obtain ⟨_, _, _, h, _⟩ := takeOne_eq s; rw [h]
@[simp] theorem State.takeOne_store (s : State) : (s.takeOne).store = s.store := by
  obtain ⟨_, _, _, h, _⟩ := takeOne_eq s; rw [h]
@[simp] theorem State.takeOne_pending (s : State) : (s.takeOne).pending = s.pending := by
  obtain ⟨_, _, _, h, _⟩ := takeOne_eq s; rw [h]

@[simp] theorem State.takeOne_watches (s : State) : s.takeOne.bus.watches = s.bus.watches := by
  obtain ⟨_, _, _, h, hw⟩ := takeOne_eq s; rw [h]; exact hw

@[simp] theorem State.considerQueue_run (s : State) : (s.considerQueue).run = s.run := by
  obtain ⟨_, _, _, h, _⟩ := takeRequests_eq s.bus.queue.length s; rw [State.considerQueue, h]
@[simp] theorem State.considerQueue_cause (s : State) : (s.considerQueue).cause = s.cause := by
  obtain ⟨_, _, _, h, _⟩ := takeRequests_eq s.bus.queue.length s; rw [State.considerQueue, h]
@[simp] theorem State.considerQueue_present (s : State) : (s.considerQueue).present = s.present := by
  obtain ⟨_, _, _, h, _⟩ := takeRequests_eq s.bus.queue.length s; rw [State.considerQueue, h]
@[simp] theorem State.considerQueue_busLow (s : State) : (s.considerQueue).busLow = s.busLow := by
  obtain ⟨_, _, _, h, _⟩ := takeRequests_eq s.bus.queue.length s; rw [State.considerQueue, h]
@[simp] theorem State.considerQueue_link (s : State) : (s.considerQueue).link = s.link := by
  obtain ⟨_, _, _, h, _⟩ := takeRequests_eq s.bus.queue.length s; rw [State.considerQueue, h]
@[simp] theorem State.considerQueue_swath (s : State) : (s.considerQueue).swath = s.swath := by
  obtain ⟨_, _, _, h, _⟩ := takeRequests_eq s.bus.queue.length s; rw [State.considerQueue, h]
@[simp] theorem State.considerQueue_heads (s : State) : (s.considerQueue).heads = s.heads := by
  obtain ⟨_, _, _, h, _⟩ := takeRequests_eq s.bus.queue.length s; rw [State.considerQueue, h]
@[simp] theorem State.considerQueue_residue (s : State) : (s.considerQueue).residue = s.residue := by
  obtain ⟨_, _, _, h, _⟩ := takeRequests_eq s.bus.queue.length s; rw [State.considerQueue, h]
@[simp] theorem State.considerQueue_slots (s : State) : (s.considerQueue).slots = s.slots := by
  obtain ⟨_, _, _, h, _⟩ := takeRequests_eq s.bus.queue.length s; rw [State.considerQueue, h]
@[simp] theorem State.considerQueue_known (s : State) : (s.considerQueue).known = s.known := by
  obtain ⟨_, _, _, h, _⟩ := takeRequests_eq s.bus.queue.length s; rw [State.considerQueue, h]
@[simp] theorem State.considerQueue_decoder (s : State) : (s.considerQueue).decoder = s.decoder := by
  obtain ⟨_, _, _, h, _⟩ := takeRequests_eq s.bus.queue.length s; rw [State.considerQueue, h]
@[simp] theorem State.considerQueue_tables (s : State) : (s.considerQueue).tables = s.tables := by
  obtain ⟨_, _, _, h, _⟩ := takeRequests_eq s.bus.queue.length s; rw [State.considerQueue, h]
@[simp] theorem State.considerQueue_events (s : State) : (s.considerQueue).events = s.events := by
  obtain ⟨_, _, _, h, _⟩ := takeRequests_eq s.bus.queue.length s; rw [State.considerQueue, h]
@[simp] theorem State.considerQueue_store (s : State) : (s.considerQueue).store = s.store := by
  obtain ⟨_, _, _, h, _⟩ := takeRequests_eq s.bus.queue.length s; rw [State.considerQueue, h]
@[simp] theorem State.considerQueue_pending (s : State) : (s.considerQueue).pending = s.pending := by
  obtain ⟨_, _, _, h, _⟩ := takeRequests_eq s.bus.queue.length s; rw [State.considerQueue, h]

@[simp] theorem State.considerQueue_watches (s : State) : s.considerQueue.bus.watches = s.bus.watches := by
  obtain ⟨_, _, _, h, hw⟩ := takeRequests_eq s.bus.queue.length s; rw [State.considerQueue, h]; exact hw

/-! ### Stage 1 of parking -/

theorem onBoundEntry_eq (s : State) (n : Slot) (f : Entry → Entry) : ∃ g, s.onBoundEntry n f = s.onKnown g := by
  unfold State.onBoundEntry
  split
  · exact ⟨_, rfl⟩
  · exact ⟨id, rfl⟩

theorem parkSlot_eq (s : State) (n : Slot) : ∃ l, s.parkSlot n = { s with known := l } := by
  obtain ⟨g, h⟩ := onBoundEntry_eq s n (parkedEntry (s.slot n).level (s.slot n).pendingDebit)
  unfold State.parkSlot
  dsimp only
  rw [h]
  split
  · obtain ⟨g', h'⟩ := onBoundEntry_eq (s.onKnown g) n fun e => { e with inDoubt := some ⟨_, _⟩ }
    rw [h']
    exact ⟨_, rfl⟩
  · exact ⟨_, rfl⟩

theorem parkSlots_eq (ns : List Slot) (s : State) : ∃ l, ns.foldl State.parkSlot s = { s with known := l } := by
  induction ns generalizing s with
  | nil => exact ⟨s.known, rfl⟩
  | cons n ns ih =>
    obtain ⟨l, h⟩ := parkSlot_eq s n
    obtain ⟨l', h'⟩ := ih (s.parkSlot n)
    exact ⟨l', by rw [List.foldl_cons, h', h]⟩

/-- The copies of stage 2 change the list, start or await a save, and move the park state. -/
theorem parkingCopies_cases (s : State) :
    ∃ l, (s.store.save.isSome = true
            ∧ s.parkingCopies = ({ s with known := l } : State).setPark (.parking .waitingSave))
      ∨ (s.store.save.isSome = false
            ∧ s.parkingCopies = (({ s with known := l } : State).startSave).setPark (.parking .saving)) := by
  obtain ⟨l, h⟩ := parkSlots_eq allSlots s
  refine ⟨l, ?_⟩
  unfold State.parkingCopies
  dsimp only
  rw [h]
  split
  · exact .inl ⟨‹_›, rfl⟩
  · exact .inr ⟨Bool.eq_false_iff.mpr ‹_›, rfl⟩

/-- Stage 1's end touches the list, the Request Decoder and the Store only. -/
theorem endStage1_eq (s : State) :
    ∃ l d t, s.endStage1 = { s with known := l, decoder := d, store := t } ∧ d.requests = s.decoder.requests := by
  unfold State.endStage1
  split
  · obtain ⟨l, ⟨_, h⟩ | ⟨_, h⟩⟩ := parkingCopies_cases s
    · exact ⟨l, _, s.store, h, rfl⟩
    · exact ⟨l, _, _, h, rfl⟩
  · exact ⟨s.known, s.decoder, s.store, rfl, rfl⟩

@[simp] theorem State.endStage1_run (s : State) : (s.endStage1).run = s.run := by
  obtain ⟨_, _, _, h, _⟩ := endStage1_eq s; rw [h]
@[simp] theorem State.endStage1_cause (s : State) : (s.endStage1).cause = s.cause := by
  obtain ⟨_, _, _, h, _⟩ := endStage1_eq s; rw [h]
@[simp] theorem State.endStage1_present (s : State) : (s.endStage1).present = s.present := by
  obtain ⟨_, _, _, h, _⟩ := endStage1_eq s; rw [h]
@[simp] theorem State.endStage1_busLow (s : State) : (s.endStage1).busLow = s.busLow := by
  obtain ⟨_, _, _, h, _⟩ := endStage1_eq s; rw [h]
@[simp] theorem State.endStage1_link (s : State) : (s.endStage1).link = s.link := by
  obtain ⟨_, _, _, h, _⟩ := endStage1_eq s; rw [h]
@[simp] theorem State.endStage1_swath (s : State) : (s.endStage1).swath = s.swath := by
  obtain ⟨_, _, _, h, _⟩ := endStage1_eq s; rw [h]
@[simp] theorem State.endStage1_heads (s : State) : (s.endStage1).heads = s.heads := by
  obtain ⟨_, _, _, h, _⟩ := endStage1_eq s; rw [h]
@[simp] theorem State.endStage1_residue (s : State) : (s.endStage1).residue = s.residue := by
  obtain ⟨_, _, _, h, _⟩ := endStage1_eq s; rw [h]
@[simp] theorem State.endStage1_slots (s : State) : (s.endStage1).slots = s.slots := by
  obtain ⟨_, _, _, h, _⟩ := endStage1_eq s; rw [h]
@[simp] theorem State.endStage1_bus (s : State) : (s.endStage1).bus = s.bus := by
  obtain ⟨_, _, _, h, _⟩ := endStage1_eq s; rw [h]
@[simp] theorem State.endStage1_nonce (s : State) : (s.endStage1).nonce = s.nonce := by
  obtain ⟨_, _, _, h, _⟩ := endStage1_eq s; rw [h]
@[simp] theorem State.endStage1_commits (s : State) : (s.endStage1).commits = s.commits := by
  obtain ⟨_, _, _, h, _⟩ := endStage1_eq s; rw [h]
@[simp] theorem State.endStage1_tables (s : State) : (s.endStage1).tables = s.tables := by
  obtain ⟨_, _, _, h, _⟩ := endStage1_eq s; rw [h]
@[simp] theorem State.endStage1_events (s : State) : (s.endStage1).events = s.events := by
  obtain ⟨_, _, _, h, _⟩ := endStage1_eq s; rw [h]
@[simp] theorem State.endStage1_pending (s : State) : (s.endStage1).pending = s.pending := by
  obtain ⟨_, _, _, h, _⟩ := endStage1_eq s; rw [h]

@[simp] theorem State.endStage1_requests (s : State) : s.endStage1.decoder.requests = s.decoder.requests := by
  obtain ⟨_, _, _, h, hr⟩ := endStage1_eq s; rw [h]; exact hr

/-! ### The end of a command that can free or fill the transaction queue -/

@[simp] theorem State.finish_run (s : State) : (s.finish).run = s.run := by
  simp [State.finish]
@[simp] theorem State.finish_cause (s : State) : (s.finish).cause = s.cause := by
  simp [State.finish]
@[simp] theorem State.finish_present (s : State) : (s.finish).present = s.present := by
  simp [State.finish]
@[simp] theorem State.finish_busLow (s : State) : (s.finish).busLow = s.busLow := by
  simp [State.finish]
@[simp] theorem State.finish_swath (s : State) : (s.finish).swath = s.swath := by
  simp [State.finish]
@[simp] theorem State.finish_heads (s : State) : (s.finish).heads = s.heads := by
  simp [State.finish]
@[simp] theorem State.finish_residue (s : State) : (s.finish).residue = s.residue := by
  simp [State.finish]
@[simp] theorem State.finish_slots (s : State) : (s.finish).slots = s.slots := by
  simp [State.finish]
@[simp] theorem State.finish_tables (s : State) : (s.finish).tables = s.tables := by
  simp [State.finish]
@[simp] theorem State.finish_pending (s : State) : (s.finish).pending = s.pending := by
  simp [State.finish]

@[simp] theorem State.finish_watches (s : State) : s.finish.bus.watches = s.bus.watches := by
  simp [State.finish]

/-- What the three parts of a command's end keep, the end keeps. -/
theorem finish_keeps {p : State → Prop} (h1 : ∀ s, p s → p s.takeOne) (h2 : ∀ s, p s → p s.endStage1)
    (h3 : ∀ s, p s → p s.sendNext) (s : State) (hs : p s) : p s.finish :=
  h3 _ (h2 _ (considerQueue_keeps h1 s hs))

/-! ### Requests -/

/-- A request that would be taken is at the front of its queue, with a free place for its reply. -/
theorem frontRequest_eq_some {s : State} {r : Request} :
    s.frontRequest = some r ↔ s.link.replies.length < 4 ∧ s.decoder.requests.head? = some r := by
  unfold State.frontRequest
  split <;> simp [*]

/-- What a taken request leaves: what its act leaves of the state without it, and its reply at the back. -/
theorem takeRequest_eq (s : State) (r : Request) (act : State → List Byte → State × Reply) :
    s.takeRequest r act =
      (act s.popRequest r.args).1.placeReply r.code r.tag (act s.popRequest r.args).2.status.code
        (if (act s.popRequest r.args).2.status.accepts then (act s.popRequest r.args).2.results else []) := rfl

end Sys2Proof.Machine
end

