-- ==== Sys2Proof/Laws/Taking.lean ====
section
/-! SUPPORT. The taking of requests and the reading of the store, said once: what one taking does, what every taking keeps, and
what a section written by a save is judged to be. -/

namespace Sys2Proof.Machine

/-! ### Requests -/

/-- The Request Decoder takes the front request if there is a free place for its reply, and otherwise does nothing. -/
theorem serveOne_cases (s : State) :
    (s.frontRequest = none ∧ s.serveOne = s)
      ∨ ∃ r, s.frontRequest = some r ∧ s.serveOne = (s.takeRequest r (State.actOn r.code)).finish := by
  unfold State.serveOne
  split
  · exact .inr ⟨_, ‹_›, rfl⟩
  · exact .inl ⟨‹_›, rfl⟩

/-- What each taking keeps, so many takings keep. -/
theorem serveUpTo_keeps {p : State → Prop} (hp : ∀ s, p s → p s.serveOne) (k : Nat) (s : State) (hs : p s) :
    p (s.serveUpTo k) := by
  induction k generalizing s with
  | zero => exact hs
  | succ k ih => exact ih _ (hp s hs)

/-- What each taking keeps, the serving of the queue keeps. -/
theorem serve_keeps {p : State → Prop} (hp : ∀ s, p s → p s.serveOne) (s : State) (hs : p s) : p s.serve :=
  serveUpTo_keeps hp _ s hs

/-- What a request's act and the end of its event keep, its row keeps. -/
theorem take_keeps {p : State → Prop} (hp : ∀ s, p s → p s.serveOne) (s : State) (front : Option Request)
    (act : State → List Byte → State × Reply) (hs : p s) (ha : ∀ r, front = some r → p (s.takeRequest r act).finish) :
    p (s.take front act) := by
  unfold State.take
  split
  · exact serve_keeps hp _ (ha _ rfl)
  · exact hs

/-! ### Receivers -/

/-- A receiver holds no more bytes than a frame may have. -/
theorem receive_length (r : Option (List Byte)) (x : Symbol) (bytes : List Byte)
    (hr : ∀ b, r = some b → b.length ≤ maxFrameBytes) (h : (receive r x).1 = some bytes) : bytes.length ≤ maxFrameBytes := by
  unfold receive at h
  split at h
  · cases h
    exact Nat.zero_le _
  · cases h
  · cases h
    exact Nat.zero_le _
  · cases h
  · split at h
    · cases h
      simpa using ‹_ < maxFrameBytes›
    · cases h
  · cases h

/-! ### Sections -/

/-- A section that is written as it is to be matches its CRC. -/
@[simp] theorem Section.matches_holding (bytes : List Byte) : (Section.holding bytes).matches = true := by
  simp [Section.matches, Section.holding]

/-- A section with a matching CRC is loaded, if its contents are in range. -/
theorem Section.judge_holding {α : Type} {parse : List Byte → Option α} {bytes : List Byte} {c : α}
    (h : parse bytes = some c) : (Section.holding bytes).judge parse = .loaded c := by
  rw [Section.judge, Section.matches_holding, if_pos rfl]
  rw [show (Section.holding bytes).bytes = bytes from rfl, h]

end Sys2Proof.Machine
end

