-- ==== Sys2Proof/Tests/Slice0.lean ====
section
/-! SUPPORT. The model's own tests: check values and worked examples of the spec, the ill-formed commands that
WellFormed refuses, and for each statement with hypotheses a state and operands that meet them. -/

namespace Sys2Proof.Tests

-- One proof is elaborated at a time, so that few threads, each with its own stack, stand open at once.
set_option Elab.async false

open Sys2Proof Sys2Proof.Machine

/-! ### Helpers -/

/-- A frame as received, with the length field and the CRC it should have. -/
def frameOf (k : FrameKind) (destination : Byte) (payload : List Byte) : RxFrame :=
  ⟨destination, BitVec.ofNat 16 payload.length, payload,
    crc16 (coveredBytes k.code destination payload.length payload)⟩

/-- The same frame with a CRC that does not match. -/
def badFrame (k : FrameKind) (payload : List Byte) : RxFrame :=
  { frameOf k 0#8 payload with crc := ~~~(frameOf k 0#8 payload).crc }

/-- The state after reset with one command waiting. -/
def waiting (command : Instr) : State := { State.reset with pending := [command] }

/-- The state after reset with one request at the front of the request queue. -/
def asking (code : Byte) (args : List Byte) : State :=
  { State.reset with decoder := { Decoder.fresh with requests := [⟨code, 7#8, args⟩] } }

/-- What a command leaves, for a look at one field of it. -/
def after (command : Instr) (s : State) : State :=
  match exec command s with
  | .next t => t
  | _ => s

/-- A frame made by `frameOf` passes its checks where its payload is one of its kind. -/
theorem accepted_frameOf {k : FrameKind} {d : Byte} {p : List Byte} (h : p.length ≤ maxPayload)
    (hk : lengthAgrees k p = true) : accepted k (frameOf k d p) = true := by
  have hl : (BitVec.ofNat 16 p.length).toNat = p.length := by
    rw [BitVec.toNat_ofNat]
    have : maxPayload = 4096 := rfl
    omega
  simp [accepted, frameOf, crcMatches, hl, hk, h]

/-- The nine ASCII bytes "123456789". -/
def digits : List Byte := [0x31#8, 0x32#8, 0x33#8, 0x34#8, 0x35#8, 0x36#8, 0x37#8, 0x38#8, 0x39#8]

/-- The magenta cartridge of 04_ink_metering.md's worked example. -/
def magenta : Identity := ⟨0x11223344#32, 0x0042#16, 0x02#8, 1#8, 700000000⟩

/-- Its class entry. -/
def magentaClass : ClassEntry := ⟨true, 0x0042#16, 0#16, 0xFF#8, 2, 750000000, 150, 40⟩

/-- Its entry in the list, IN SLOT 3 and proven. -/
def magentaEntry : Entry where
  serial := 0x11223344#32
  product := 0x0042#16
  generation := 1#8
  lastLevel := some 41230000
  unsettled := 0
  inDoubt := none
  count := 0
  exhausted := false
  suspect := false
  residence := some 3
  carried := none
  refurbished := false

/-- The tables of that example: volumes 45, 90 and 180 for waveform set 0, its curve, its lanes and its class. -/
def exampleTables : Tables :=
  { defaultTables with
    drop := #v[45, 90, 180, 0, 0, 0, 0, 0, 0, 0, 0, 0]
    curve := #v[⟨40, 1100⟩, ⟨60, 1060⟩, ⟨80, 1024⟩, ⟨100, 990⟩, ⟨120, 960⟩, ⟨140, 935⟩, ⟨160, 915⟩, ⟨180, 900⟩]
    lanes := (defaultLanes.set 10 (some 3)).set 11 (some 3)
    classes := defaultClasses.set 0 magentaClass }

/-- Slot 3's record before the close. -/
def magentaSlot : SlotRecord where
  state := .genuine
  binding := some ⟨magenta, 0⟩
  proven := true
  allowance := 3
  attempts := 0
  round := 0
  holdoff := none
  countdown := 64
  level := some 41230000
  pendingDebit := 248900
  band := .low

/-- The open swath of the example. -/
def exampleSwath : SwathPath where
  descriptor := some ⟨5#32, 2000, #v[none, some ⟨0, 1014⟩, none, none], [(0, 15)]⟩
  refused := false
  taken := ((Vector.replicate 32 0).set 10 2000).set 11 2000
  drops := ((Vector.replicate 32 ⟨0, 0, 0⟩).set 10 ⟨70000, 50000, 17096⟩).set 11 ⟨50000, 30000, 12000⟩
  latched := (Vector.replicate 12 .blank).set 3 .pass
  lastNumber := 5#32

/-- The SWATH CLOSE frame of swath 5. -/
def closing : RxFrame := frameOf .swathClose 0#8 [5#8, 0#8, 0#8, 0#8]

/-- The part at the end of the example's swath, its SWATH CLOSE waiting. -/
def printing : State :=
  { State.reset with
    present := State.reset.present.set 3 true
    link := { State.reset.link with upTx := none, up := true, lossTimer := some 20 }
    swath := exampleSwath
    residue := State.reset.residue.set 3 3000000
    slots := State.reset.slots.set 3 magentaSlot
    bus := { State.reset.bus with watches := State.reset.bus.watches.set 3 .seated }
    known := [magentaEntry]
    tables := exampleTables
    pending := [.swathClose closing] }

/-! ### Check values and worked examples of the spec -/

/-- R2. -/
theorem test_crc16_check_value : crc16 digits = 0x29B1#16 := by decide +kernel

/-- R79. -/
theorem test_crc8_check_value : crc8 digits = 0xF4#8 := by decide +kernel

/-- R103. -/
theorem test_tag_check_value :
    tagOf ⟨1#32, 0#32, 0#32, 0#32⟩ 0#32 0#32 0#32 0#32 = 0x10002000#32 := by decide

/-- 03's worked example: reports of 90 and 84 slewed by 6, and 81 taken as it stands. -/
theorem test_slew_example :
    slew 6 70 90 = 76 ∧ slew 6 76 84 = 82 ∧ slew 6 82 81 = 81 ∧ slew 6 81 60 = 75 := by decide

/-- 03's and 04's worked examples: 81 gives 1,023 and 86 gives 1,014. -/
theorem test_factor_example :
    curveFactor exampleTables.curve 81 = 1023 ∧ curveFactor exampleTables.curve 86 = 1014
      ∧ curveFactor exampleTables.curve 40 = 1100 ∧ curveFactor exampleTables.curve 300 = 900 := by decide +kernel

/-- 02's worked example: small, medium and large under thinning, in a gated column. -/
theorem test_thinning_example :
    let t : Tables := { exampleTables with thin := (exampleTables.thin.set 2 1#2).set 3 2#2 }
    forwardCode t (some .thin) 0 false 1#2 = 1#2 ∧ forwardCode t (some .thin) 0 false 2#2 = 1#2
      ∧ forwardCode t (some .thin) 0 false 3#2 = 2#2 ∧ forwardCode t (some .blank) 0 true 3#2 = 3#2 := by decide +kernel

/-- 02's worked example, frame E: of columns 96 to 103 four are kept. -/
theorem test_overrun_example : columnsKept 8 96 100 24 = 4 := by decide

/-- 04's worked example: the close debits 1,766 nL and keeps 6,161,920 sub-units. -/
theorem test_metering_example :
    let t := after (.swathClose closing) printing
    t.residue[3] = 6161920 ∧ (t.slot 3).pendingDebit = 250666 ∧ (t.slot 3).estimate = some 40979334
      ∧ (t.slot 3).band = .low ∧ t.events = printing.events := by decide +kernel

/-- The same close queues a commit, which begins at once on the free line with the amount 250,666. -/
theorem test_close_begins_commit :
    ((after (.swathClose closing) printing).bus.flight.map fun f => (f.kind, f.slot.val, f.amount))
      = some (.debit, 3, 250666) := by decide +kernel

/-- 09's worked example: an event added while the gate is closed is pending without a NOTICE, and one raised again changes
nothing. -/
theorem test_notice_example :
    let u : EventUnit := { State.reset.events with pending := [], gateOpen := true }
    let u1 := EventUnit.raise .inserted 4 0#32 u
    let u2 := EventUnit.raise .inserted 4 0#32 (EventUnit.raise .busStuck 0 0#32 u1)
    u1.noticeReady = true ∧ u1.gateOpen = false ∧ u1.noticePayload = [1#8, 1#8]
      ∧ u2.pending.map Event.name = [(.inserted, 4), (.busStuck, 0)] := by decide

/-- R172 and R173: a CLEAR of every event starts the hold-off of 100 ms. -/
theorem test_clear_starts_holdoff :
    (after .eventsClear (asking 7#8 [1#8, 1#8])).events.holdoff = some 100 := by decide +kernel

/-- R109: the hold-off lasts 1, 2, 4 and 8 times the base. -/
theorem test_holdoff_multipliers : [1, 2, 3, 4, 255].map holdoffMultiplier = [1, 2, 4, 8, 8] := by decide

/-- A state in which the store is read: CONFIG and KEYS lost, and a KNOWN section. -/
def starting (known : Section) : State :=
  { State.reset with run := .reading, store := { Store.factory with config := ⟨[], 0#16⟩, keys := ⟨[], 0#16⟩, known := known } }

/-- R181, R182: lost sections are reported after RESTART, and their tables take their defaults. -/
theorem test_lost_sections :
    let s := starting Store.factory.known
    (after (.startUp 5#4) s).events.pending.map Event.name
        = [(.restart, 0), (.storeSectionLost, 0), (.storeSectionLost, 1)]
      ∧ (after (.startUp 5#4) s).tables = defaultTables ∧ (after (.startUp 5#4) s).link.address = 0xA5#8 := by
  decide +kernel

/-- R181: a KNOWN section with one bit wrong is corrected, and reported after RESTART. -/
theorem test_corrected_section :
    let s := starting { Store.factory.known with bytes := flipBit Store.factory.known.bytes 17 }
    (after (.startUp 5#4) s).events.pending.map Event.name
        = [(.restart, 0), (.storeSectionLost, 0), (.storeSectionLost, 1), (.storeCorrected, 2)]
      ∧ (after (.startUp 5#4) s).known = [] ∧ (after (.startUp 5#4) s).nonce = 0#32 := by
  decide +kernel

/-- R179, R181: the bytes of the sections that a save writes hold what was saved. -/
theorem test_saved_sections_load :
    parseConfig (configImage exampleTables).bytes = some (configImage exampleTables)
      ∧ parseKeys (keysBytes (defaultKeys.set 7 ⟨1#32, 2#32, 3#32, 0x80000004#32⟩))
        = some (defaultKeys.set 7 ⟨1#32, 2#32, 3#32, 0x80000004#32⟩)
      ∧ parseKnown (KnownImage.bytes ⟨[magentaEntry], 7#32, 300⟩) = some ⟨[magentaEntry], 7#32, 300⟩ := by decide +kernel

/-- R1, R5: on HEAD IN, a START and a FILL each make the frame in receipt incomplete; so does the START of a HEAD STATUS, which is
then read. -/
theorem test_head_in_receiver :
    let head (x : Symbol) := after (.discardedFrame (.headSymbol x))
    let s := head (.data 5#8) (head .start State.reset)
    s.link.headReceiver = some [5#8] ∧ s.link.crcErrors = 0
      ∧ (head .start s).link.headReceiver = some [] ∧ (head .start s).link.crcErrors = 1
      ∧ (head .fill s).link.headReceiver = none ∧ (head .fill s).link.crcErrors = 1
      ∧ (after (.headStatus (frameOf .headStatus 0#8 [3#8, 1#8, 70#8, 0#8])) s).link.crcErrors = 1
      ∧ (after (.headStatus (frameOf .headStatus 0#8 [3#8, 1#8, 70#8, 0#8])) s).heads[3].tracked = 70 := by decide +kernel

/-- R157: a REQUEST is taken within the event of its frame, and a fifth one as well while the reply queue has a free place; with
the reply queue full, requests wait. -/
theorem test_requests_are_taken_at_once :
    let ask := after (.requestFrame (frameOf .request 0xA0#8 [6#8, 1#8]))
    let four := ask (ask (ask (ask State.reset)))
    (ask State.reset).decoder.requests = [] ∧ (ask State.reset).link.replies.length = 1
      ∧ four.link.replies.length = 4 ∧ four.decoder.requests = [] ∧ (ask four).decoder.requests.length = 1
      ∧ (after .upstreamSendEnd (ask four)).decoder.requests = []
      ∧ (after .upstreamSendEnd (ask four)).link.replies.length = 4 := by decide +kernel

/-- R102, R181: the nonce register after start-up is the seed XOR (write count × 65,537). -/
theorem test_start_nonce : startNonce ⟨[], 5#32, 3⟩ = 196614#32 := by decide

/-- R82: a request for a queued transaction merges with it. -/
theorem test_requests_merge :
    ((State.reset.busPlace 2 .debit).busPlace 2 .debit).bus.queue = [⟨2, .debit⟩] := by decide

/-- R127: a level within the tolerance of pre-level − D, its lower bound not wrapping. -/
theorem test_in_doubt_window :
    wasApplied 1000 900 200 0 = true ∧ wasApplied 1000 900 200 300 = true ∧ wasApplied 1000 900 200 301 = false := by
  decide

/-- No row of the opcode table gives bits: no word spells a command. -/
theorem test_no_word_decodes : decodeTableWord 8 1 = none ∧ State.reset.withFetchWord 8 1 = State.reset := ⟨rfl, rfl⟩

/-- The command at the front of the queue is the one that runs. -/
theorem test_step_takes_the_front :
    step { State.reset with pending := [.resetRelease, .linkLoss] } = .next { State.reset with pending := [.linkLoss] } := by
  rfl

/-! ### Ill-formed commands are refused by WellFormed -/

/-- A payload no frame can hold (R1). -/
def longPayload : List Byte := List.replicate 4097 0#8

theorem test_wf_long_frames :
    (Instr.swathOpen ⟨0#8, 0#16, longPayload, 0#16⟩).wf = false ∧ (Instr.fire ⟨0#8, 0#16, longPayload, 0#16⟩).wf = false
      ∧ (Instr.swathClose ⟨0#8, 0#16, longPayload, 0#16⟩).wf = false
      ∧ (Instr.requestFrame ⟨0#8, 0#16, longPayload, 0#16⟩).wf = false
      ∧ (Instr.headStatus ⟨0#8, 0#16, longPayload, 0#16⟩).wf = false
      ∧ (Instr.passThroughFrame .reply ⟨0#8, 0#16, longPayload, 0#16⟩).wf = false := by decide +kernel

theorem test_wf_supply_reply :
    (Instr.supplyReply [1#8]).wf = false ∧ (Instr.supplyReply (List.replicate 9 0#8)).wf = true
      ∧ (Instr.supplyReply (List.replicate 13 0#8)).wf = true := by decide

/-- A whole frame that passes its checks is not one to be discarded; an overlong one is not whole. -/
theorem test_wf_discarded :
    (Instr.discardedFrame (.fmtFrame (asReceived .swathClose closing).bytes)).wf = false
      ∧ (Instr.discardedFrame (.headFrame (List.replicate 4103 0#8))).wf = false
      ∧ (Instr.discardedFrame (.fmtFrame digits)).wf = true := by decide +kernel

/-! ### States and operands that meet the statements' hypotheses

`witness_O<k>` is for statement O<k>; a statement with several clauses has one witness for each, `_<letter>`. -/

/-- Slots other than slot 3 of the example are as after reset. -/
theorem printing_other_slots : ∀ n : Slot, n ≠ 3 → printing.slot n = SlotRecord.fresh := by decide +kernel

theorem printing_boundSerial : ∀ n : Slot,
    (n = 3 ∧ printing.boundSerial n = some 0x11223344#32) ∨ (n ≠ 3 ∧ printing.boundSerial n = none) := by decide +kernel

theorem printing_steps : ∃ t, step printing = .next t := ⟨_, rfl⟩

theorem printing_bindingsAgree : printing.bindingsAgree := by
  refine ⟨?_, ?_, by decide +kernel, by decide +kernel⟩
  · intro n serial h
    rcases printing_boundSerial n with ⟨rfl, h'⟩ | ⟨_, h'⟩
    · rw [h'] at h
      cases h
      exact ⟨magentaEntry, List.Mem.head _, rfl, rfl⟩
    · rw [h'] at h
      cases h
  · intro e he n h
    simp only [printing, List.mem_singleton] at he
    subst he
    cases h
    decide +kernel

theorem printing_slotsSound : printing.slotsSound := by
  intro n
  by_cases h : n = 3
  · subst h
    refine ⟨⟨rfl, ?_, ?_, ?_, ?_⟩, by decide +kernel⟩ <;> decide
  · refine ⟨?_, ?_⟩
    · rw [printing_other_slots n h]
      refine ⟨rfl, ?_, ?_, ?_, ?_⟩ <;> decide
    · rw [printing_other_slots n h]
      rfl

theorem printing_busSettled : printing.busSettled := by
  refine ⟨?_, ?_, ?_, ?_, ?_, ?_⟩ <;> decide

/-- O7: a forward queue of exactly four, both receivers at their bound, and a request that waits for a full reply queue. -/
def fullLink : State :=
  { State.reset with
    link :=
      { State.reset.link with
        up := true
        lossTimer := some 20
        receiver := some (List.replicate 4102 0#8)
        headReceiver := some (List.replicate 4102 0#8)
        crcErrors := 65535
        forward := List.replicate 4 (closeFrame 1#32)
        replies := List.replicate 4 (makeFrame .reply 0xA0#8 [6#8, 1#8, 6#8])
        downTx := some (closeFrame 1#32) }
    decoder := { Decoder.fresh with requests := [⟨6#8, 7#8, []⟩] }
    pending := [.linkSymbol (.data 1#8)] }

theorem witness_O7 : (fullLink.linkBounded ∧ fullLink.takenUp) ∧ ∃ t, step fullLink = .next t := by
  refine ⟨⟨⟨by decide, by decide, by decide, by decide, by decide, ?_, ?_, rfl⟩, fun _ => ⟨nofun, nofun, fun _ => rfl⟩⟩, _, rfl⟩ <;>
  · intro bytes h
    cases h
    exact Nat.le_of_eq List.length_replicate

theorem witness_O8 : printing.events.sound ∧ ∃ t, step printing = .next t := by
  refine ⟨⟨?_, ?_, ?_, ?_, ?_, ?_⟩, printing_steps⟩ <;> decide

theorem witness_O9 : printing.metered ∧ ∃ t, step printing = .next t := by
  refine ⟨?_, printing_steps⟩
  unfold State.metered
  decide +kernel

theorem witness_O10 : printing.columnsBounded ∧ ∃ t, step printing = .next t := by
  refine ⟨⟨?_, ?_, ?_⟩, printing_steps⟩
  · intro d h
    cases h
    decide +kernel
  · decide +kernel
  · decide +kernel

theorem witness_O11 : printing.parkedClosed ∧ ∃ t, step printing = .next t := ⟨fun _ => rfl, printing_steps⟩

theorem witness_O12 : printing.busSettled ∧ ∃ t, step printing = .next t := ⟨printing_busSettled, printing_steps⟩

theorem exampleTables_sound : exampleTables.sound := by
  refine ⟨?_, ?_, ?_, ?_, ?_, ?_, ?_⟩
  · decide +kernel
  · unfold curveInRange
    decide +kernel
  · unfold thinInRange
    decide +kernel
  all_goals decide +kernel

theorem witness_O13 : printing.tablesSound ∧ ∃ t, step printing = .next t := by
  refine ⟨⟨exampleTables_sound, ⟨trivial, trivial, trivial⟩, ?_⟩, printing_steps⟩
  intro d hd h u hu
  cases hd
  have all : ∀ h : Head, (#v[none, some ⟨0, 1014⟩, none, none] : Vector (Option HeadUse) 4)[h].all (fun u =>
      decide (256 ≤ u.factor ∧ u.factor ≤ 2047)) = true := by decide +kernel
  have hh := all h
  rw [hu] at hh
  exact of_decide_eq_true hh

theorem witness_O14 : printing.bindingsAgree ∧ ∃ t, step printing = .next t := ⟨printing_bindingsAgree, printing_steps⟩

theorem witness_O15 : (printing.bindingsAgree ∧ printing.slotsSound) ∧ ∃ t, step printing = .next t :=
  ⟨⟨printing_bindingsAgree, printing_slotsSound⟩, printing_steps⟩

theorem witness_O16 : printing.watchesAgree ∧ ∃ t, step printing = .next t := by
  refine ⟨?_, printing_steps⟩
  intro n
  by_cases h : n = 3
  · subst h
    refine ⟨by decide +kernel, ⟨by decide, by decide⟩, ?_, by decide +kernel⟩
    intro _ b hb
    cases hb
    decide
  · have hw : ∀ n : Slot, n ≠ 3 → printing.watch n = .quiet ∧ printing.present[n] = false := by decide +kernel
    obtain ⟨h1, h2⟩ := hw n h
    refine ⟨?_, ?_, ?_, by rw [h1]; rfl⟩
    · rw [h1]
      have : ∀ n : Slot, printing.tables.sockets[n].enabled = true := by decide +kernel
      exact ⟨fun h => by (cases h), fun h => by (rw [this n] at h; cases h)⟩
    · rw [h1, printing_other_slots n h]
      rfl
    · intro _ b hb
      rw [h1] at hb
      cases hb
      exact h2

theorem witness_O17 :
    (printing.bindingsAgree ∧ settingsAgree printing.tables.settings = true ∧ printing.suspicionSettled)
      ∧ ∃ t, step printing = .next t := by
  refine ⟨⟨printing_bindingsAgree, by decide +kernel, ?_⟩, printing_steps⟩
  intro e he n h
  simp only [printing, List.mem_singleton] at he
  subst he
  cases h
  decide +kernel

/-- The example with a DEBIT of slot 3 in flight. -/
def debiting : State := after (.swathClose closing) printing

theorem witness_O18 :
    (printing.busSettled ∧ printing.bindingsAgree ∧ printing.slotsSound ∧ printing.commitsAgree)
      ∧ ∃ t, step printing = .next t := by
  refine ⟨⟨printing_busSettled, printing_bindingsAgree, printing_slotsSound, ?_⟩, printing_steps⟩
  intro _
  refine ⟨fun n => ?_, fun o h => by cases h⟩
  have h : ∀ n : Slot, (printing.commit n).phase = .idle := by decide +kernel
  simp [State.commitAgrees, h n]

/-- O18: an IN FLIGHT record and the DEBIT on the line. -/
theorem witness_O18_inFlight : debiting.commitAgrees 3 ∧ (debiting.commit 3).phase.code = 2#8 := by
  refine ⟨?_, by decide +kernel⟩
  have h : (debiting.commit 3).phase = .inFlight 250666 nonceStep 41230000 0x11223344#32 0 := by decide +kernel
  unfold State.commitAgrees
  rw [h]
  have hf : debiting.bus.flight.all (fun f => decide (f.kind = .debit ∧ f.slot = 3 ∧ f.amount = 250666
      ∧ f.nonce = nonceStep ∧ f.slotLeft = false)) = true ∧ debiting.bus.flight.isSome = true
      ∧ (⟨3, .debit⟩ : BusRequest) ∉ debiting.bus.queue := by decide +kernel
  obtain ⟨h1, h2, h3⟩ := hf
  refine ⟨?_, h3⟩
  obtain ⟨f, hf⟩ := Option.isSome_iff_exists.mp h2
  rw [hf] at h1
  exact ⟨f, hf, by simpa using h1⟩

/-- O3. -/
theorem witness_O3 : (execReset .pin State.reset) = .next (after (.reset .pin) State.reset)
    ∧ (after (.reset .pin) State.reset).run ≠ .running := ⟨rfl, by decide⟩

/-- O5: a state in which the store is read; a section lost where one bit would make its CRC match but a value is then out of
range, and one lost for want of such a bit. -/
theorem witness_O5 : (after .resetRelease (after (.reset .power) printing)).run = .reading := rfl

theorem witness_O5_lost :
    let outOfRange := KnownImage.bytes ⟨[], 5#32, 0⟩ |>.set 0 49#8
    (Section.judge parseKnown ⟨flipBit outOfRange 9, crc16 outOfRange⟩ = .lost)
      ∧ Section.judge parseKnown ⟨[0#8], 0#16⟩ = .lost := by decide +kernel

/-- O19, O20, O22: a command that is none of those excepted, and its next state. -/
theorem witness_O19 : ∃ t, exec (.swathClose closing) printing = .next t := ⟨_, rfl⟩

/-- O21: every lockable table locked, with a LOAD TABLE of the policy table at the front. -/
def locked : State :=
  { asking 1#8 [5#8, 0#8, 1#8, 1#8, 0#8] with tables := { defaultTables with locks := ⟨true, true, true, true, true⟩ } }

theorem witness_O21 : (∃ t, exec .loadTable locked = .next t)
    ∧ (∀ table, table ∈ [TableId.policy, .classes, .keys, .sockets, .settings] → locked.tables.locks.holds table = true)
    ∧ locked.decoder.policyCopy = .none := ⟨⟨_, rfl⟩, by decide, rfl⟩

/-- O23, O27, O58's expiry, O60: any running state. -/
theorem witness_O23 : printing.run = .running := rfl

/-- O24: a frame of each kind that fails its CRC, a full forward queue, and bytes that are no frame. -/
theorem witness_O24 :
    accepted .swathOpen (badFrame .swathOpen [1#8]) = false ∧ accepted .fire (badFrame .fire [1#8]) = false
      ∧ accepted .swathClose (badFrame .swathClose [1#8]) = false ∧ accepted .request (badFrame .request [1#8]) = false
      ∧ accepted .headStatus (badFrame .headStatus [1#8]) = false ∧ accepted .reply (badFrame .reply [1#8]) = false
      ∧ accepted .notice (badFrame .notice [1#8]) = false ∧ acceptedFrame headKind digits = none
      ∧ acceptedFrame fmtKind digits = none ∧ fullLink.run = .running ∧ 3 < fullLink.link.forward.length := by
  decide +kernel

/-- A REQUEST frame of QUERY STATUS to the controller at strap 0, and one to another controller. -/
def statusRequest (destination : Byte) : RxFrame := frameOf .request destination [6#8, 1#8]

theorem witness_O25 :
    State.reset.run = .running ∧ accepted .request (statusRequest 0xA0#8) = true
      ∧ State.reset.isAddressed 0xA0#8 = true ∧ accepted .request (statusRequest 0xA1#8) = true
      ∧ State.reset.isAddressed 0xA1#8 = false :=
  ⟨rfl, accepted_frameOf (by decide) (by decide), by decide, accepted_frameOf (by decide) (by decide), by decide⟩

/-- O26: a valid report for head 3, one for head 4, one with the flag clear, a REPLY and a NOTICE. -/
theorem witness_O26 :
    accepted .headStatus (frameOf .headStatus 0#8 [3#8, 1#8, 70#8, 0#8]) = true
      ∧ accepted .headStatus (frameOf .headStatus 0#8 [4#8, 1#8, 70#8, 0#8]) = true
      ∧ accepted .headStatus (frameOf .headStatus 0#8 [3#8, 0#8, 200#8, 0#8]) = true
      ∧ accepted .reply (frameOf .reply 0xA1#8 [6#8, 1#8, 6#8]) = true
      ∧ accepted .notice (frameOf .notice 0xA1#8 [1#8, 1#8]) = true ∧ State.reset.heads[3].staleTimer = some 500 :=
  ⟨accepted_frameOf (by decide) (by decide), accepted_frameOf (by decide) (by decide),
    accepted_frameOf (by decide) (by decide), accepted_frameOf (by decide) (by decide),
    accepted_frameOf (by decide) (by decide), by decide⟩

/-- O28: an UP link with an open swath, and a LINK RESET at the front. -/
theorem witness_O28_a : printing.run = .running ∧ printing.link.up = true ∧ printing.link.lossTimer.isSome = true :=
  ⟨rfl, rfl, rfl⟩

theorem witness_O28_b : (asking 13#8 []).run = .running ∧ (asking 13#8 []).offers ⟨13#8, 7#8, []⟩ :=
  ⟨rfl, by decide, rfl⟩

/-- O29: FMT OUT free with a reply waiting, with a pass-through frame alone, and with a NOTICE alone; a request that would be
taken; and a command end that only begins frames. -/
theorem witness_O29 :
    let s : State :=
      { printing with link := { printing.link with replies := [makeFrame .reply 0xA0#8 [6#8, 1#8, 6#8]] } }
    let passing : State :=
      { printing with link := { printing.link with passThrough := [makeFrame .notice 0xA1#8 [1#8, 1#8]] } }
    let notice : State := { printing with events := { printing.events with noticeReady := true } }
    passing.link.upTx = none ∧ passing.link.replies = [] ∧ passing.link.passThrough ≠ []
      ∧ notice.link.upTx = none ∧ notice.link.replies = [] ∧ notice.link.passThrough = []
      ∧ (asking 6#8 []).link.replies.length < 4 ∧ (asking 6#8 []).decoder.requests.head? = some ⟨6#8, 7#8, []⟩
      ∧ s.link.upTx = none ∧ s.link.replies ≠ [] ∧ State.reset.link.upTx.isSome = true
      ∧ (s.bus.status = .idle → s.bus.flight = none → s.bus.queue = [])
      ∧ ¬(s.decoder.park = .parking .commits ∧ s.commits.allSettled = true) := by decide +kernel

/-- A SWATH OPEN of swath 6 with head 1 and waveform set 0, and one with no columns, whose descriptor is invalid. -/
def opening (columns : Byte) : RxFrame :=
  frameOf .swathOpen 0#8 [6#8, 0#8, 0#8, 0#8, columns, 0#8, 1#8, 1#8, 1#8, 0#8, 0#8, 0#8, 15#8, 0#8]

theorem witness_O31 :
    printing.run = .running ∧ accepted .swathOpen (opening 100#8) = true ∧ printing.link.forward.length ≤ 2
      ∧ printing.decoder.park = .active ∧ descriptorValid (opening 100#8).payload = true :=
  ⟨rfl, accepted_frameOf (by decide) (by decide), by decide, rfl, by decide⟩

/-- O32: a column count of 16, so that the window's last column is the swath's last. -/
theorem witness_O32 :
    descriptorValid (opening 16#8).payload = true ∧ (1, 0) ∈ openHeads (opening 16#8).payload
      ∧ openWindows (opening 16#8).payload = [(0, 15)] ∧ (∀ e ∈ openHeads (opening 16#8).payload, e.1 ≠ 0) := by
  decide +kernel

theorem witness_O33_invalid :
    accepted .swathOpen (opening 0#8) = true ∧ descriptorValid (opening 0#8).payload = false
      ∧ printing.link.forward.length ≤ 2 := ⟨accepted_frameOf (by decide) (by decide), by decide, by decide⟩

theorem witness_O33_parked :
    let s : State := { State.reset with decoder := { Decoder.fresh with park := .parked } }
    s.run = .running ∧ accepted .swathOpen (opening 100#8) = true ∧ s.decoder.park ≠ .active
      ∧ s.link.forward.length ≤ 2 := ⟨rfl, accepted_frameOf (by decide) (by decide), by decide, by decide⟩

/-- A FIRE frame of one column of one head and lane, all codes 0. -/
def firing (head lane : Byte) : RxFrame :=
  frameOf .fire 0#8 ([head, lane, 0#8, 0#8, 1#8] ++ List.replicate 128 0#8)

/-- O34: in GAP; and in the example's swath, for a head outside its head set. -/
theorem witness_O34 :
    accepted .fire (firing 0#8 0#8) = true ∧ State.reset.swath.descriptor = none ∧ State.reset.link.forward.length ≤ 3
      ∧ printing.swath.descriptor.all (fun d => d.heads[0].isNone) = true ∧ printing.link.forward.length ≤ 3 :=
  ⟨accepted_frameOf (by decide +kernel) (by decide +kernel), rfl, by decide, by decide, by decide⟩

theorem witness_O35 :
    printing.run = .running ∧ accepted .fire (firing 1#8 2#8) = true ∧ printing.link.forward.length ≤ 3
      ∧ (byteAt (firing 1#8 2#8).payload 0).toNat = 1 ∧ (byteAt (firing 1#8 2#8).payload 1).toNat = 2
      ∧ printing.swath.descriptor.all (fun d => d.heads[1] == some ⟨0, 1014⟩) = true :=
  ⟨rfl, accepted_frameOf (by decide +kernel) (by decide +kernel), by decide, by decide, by decide, by decide⟩

/-- O37: the default thinning map, at the last index of its waveform set. -/
theorem witness_O37 : thinInRange defaultThin ∧ (15 : Fin 16).val = 4 * (3 : Fin 4).val + (3#2).toNat := by
  unfold thinInRange
  decide +kernel

theorem witness_O38 :
    printing.run = .running ∧ accepted .swathClose closing = true ∧ printing.link.forward.length ≤ 3 :=
  ⟨rfl, accepted_frameOf (by decide) (by decide), by decide⟩

/-- O39: the example's curve, its ends, a point, and temperatures between two points. -/
theorem witness_O39 :
    curveValid exampleTables.curve = true
      ∧ (∀ k : Fin 8, 900 ≤ exampleTables.curve[k].factor ∧ exampleTables.curve[k].factor ≤ 1100)
      ∧ (40 : Int) ≤ exampleTables.curve[0].temperature ∧ exampleTables.curve[7].temperature ≤ (180 : Int)
      ∧ exampleTables.curve[2].temperature ≤ (99 : Int) ∧ (99 : Int) < exampleTables.curve[3].temperature := by
  decide +kernel

/-- O43: a QUIET watch, one of a slot that is not EMPTY, and a line that reads present. -/
theorem witness_O43 :
    State.reset.run = .running ∧ State.reset.present[0] = false ∧ State.reset.watch 0 = .quiet
      ∧ (State.reset.slot 0).state = .empty ∧ printing.present[3] = true ∧ printing.watch 3 = .seated
      ∧ (after (.lineGoesAbsent 3) printing).present[3] = false ∧ (after (.lineGoesAbsent 3) printing).watch 3 ≠ .quiet
      ∧ ({ State.reset with slots := State.reset.slots.set 0 magentaSlot } : State).slot 0 = magentaSlot
      ∧ EventKind.inserted ∈ State.reset.events.enabled := by decide +kernel

/-- Slot 0 with a cartridge that has arrived. -/
def arrived : State := after (.lineGoesPresent 0) State.reset

theorem witness_O44_seating :
    arrived.run = .running ∧ arrived.watch 0 = .arriving (some 200) ∧ (arrived.slot 0).state = .settling := by decide +kernel

/-- R181: the settle timer stops at RESET. -/
theorem test_reset_stops_settle_timers : (after (.reset .pin) arrived).watch 0 = .arriving none := by decide +kernel

/-- Slot 0 held off. -/
def heldOff : State :=
  { State.reset with
    slots := State.reset.slots.set 0 { SlotRecord.fresh with state := .holdoff, round := 1, holdoff := some 2000 } }

theorem witness_O44_holdoff :
    heldOff.run = .running ∧ (heldOff.slot 0).state = .holdoff ∧ (heldOff.slot 0).holdoff.isSome = true := by decide +kernel

/-- The example's cartridge drawn out during its DEBIT. -/
def leavingDebit : State := after (.lineGoesAbsent 3) debiting

theorem witness_O45 :
    leavingDebit.run = .running ∧ leavingDebit.watch 3 = .leaving .seated (some 20) ∧ (leavingDebit.slot 3).state ≠ .empty
      ∧ (leavingDebit.slot 3).binding = some ⟨magenta, 0⟩
      ∧ (leavingDebit.commit 3).phase = .inFlight 250666 nonceStep 41230000 0x11223344#32 0
      ∧ leavingDebit.bus.flight.isSome = true ∧ leavingDebit.decoder.park ≠ .parking .commits := by decide +kernel

/-- O45, a slot that is not bound. -/
theorem witness_O45_unbound :
    let s := after (.lineGoesAbsent 0) arrived
    s.run = .running ∧ s.watch 0 = .leaving .arriving (some 20) ∧ (s.slot 0).state ≠ .empty ∧ (s.slot 0).binding = none := by
  decide +kernel

/-- A request of a kind for slot 3 on a free line, its commit record WAITING. -/
def requesting (k : BusKind) : State :=
  { printing with
    bus := { printing.bus with queue := [⟨3, k⟩] }
    commits := { printing.commits with records := printing.commits.records.set 3 ⟨.waiting, false⟩ } }

theorem witness_O47 : ∀ k ∈ [BusKind.identify, .challenge, .debit],
    (requesting k).run = .running ∧ (requesting k).bus.status = .idle ∧ (requesting k).bus.flight = none
      ∧ (requesting k).decoder.park ≠ .parking .commits
      ∧ nextRequest (requesting k).bus.queue = some ⟨3, k⟩ := by decide +kernel

/-- O29: a request waits on a free bus. -/
theorem witness_O29_begin :
    (requesting .debit).run = .running ∧ (requesting .debit).bus.isFree = true ∧ (requesting .debit).bus.queue ≠ [] := by
  decide +kernel

/-- O48: a command being sent, a reply awaited, a low line timed, a fault whose line is released. -/
theorem witness_O48_sending : (debiting.bus.flight.map fun f => f.stage) = some .sending ∧ debiting.run = .running := by
  decide +kernel

theorem witness_O48_awaiting :
    ((after .commandSent debiting).bus.flight.map fun f => (f.stage, f.kind)) = some (.awaiting, .debit)
      ∧ (after .commandSent debiting).run = .running := by decide +kernel

/-- The line pulled low. -/
def pulled : State := after .busLinePulledLow debiting

theorem witness_O48_low : pulled.busLow = true ∧ pulled.bus.lowTiming = true ∧ pulled.bus.status ≠ .fault := by
  decide +kernel

theorem witness_O48_fault :
    let s := after .busLineReleased (after .busStuck pulled)
    s.run = .running ∧ s.bus.status = .fault ∧ s.bus.releaseTimer = true ∧ s.busLow = false := by decide +kernel

theorem witness_O48_left :
    let f : Flight := ⟨0, .identify, 0#32, 0, .awaiting, [], true⟩
    f.slotLeft = true ∧ f.kind ≠ .debit := by decide

/-- The magenta cartridge's IDENTIFY reply. -/
def magentaFields : List Byte :=
  [0x44#8, 0x33#8, 0x22#8, 0x11#8, 0x42#8, 0#8, 2#8, 1#8, 0x00#8, 0x27#8, 0xB9#8, 0x29#8]

/-- Slot 0 in IDENTIFYING, with the example's tables. -/
def identifying : State :=
  { State.reset with
    slots := State.reset.slots.set 0 { SlotRecord.fresh with state := .identifying, allowance := 3 }
    tables := exampleTables }

theorem witness_O50 :
    (identifying.slot 0).state = .identifying ∧ (identifying.slot 0).binding = none
      ∧ parseIdentity magentaFields = magenta ∧ exampleTables.classes[0].matches magenta.product = true
      ∧ identifying.known = [] := by decide +kernel

/-- O50, a slot that is bound: a re-identification, by the same and by another cartridge. -/
theorem witness_O50_bound :
    let s : State := { printing with slots := printing.slots.set 3 { magentaSlot with state := .identifying } }
    (s.slot 3).state = .identifying ∧ (s.slot 3).binding = some ⟨magenta, 0⟩ ∧ parseIdentity magentaFields = magenta
      ∧ parseIdentity (magentaFields.set 0 0#8) ≠ magenta := by decide +kernel

/-- O50, no class: the tables after reset; and a serial IN SLOT elsewhere. -/
theorem witness_O50_foreign :
    (∀ k : Fin 16, defaultTables.classes[k].valid = false)
      ∧ ({ identifying with known := [magentaEntry] } : State).boundElsewhere magenta.serial 0 = true := by decide +kernel

/-- O50 and O51, the discards: a slot that is in no state an outcome of the kind belongs to. -/
theorem witness_O50_discard :
    (printing.slot 3).state ≠ .identifying ∧ (identifying.slot 0).state ≠ .authenticating
      ∧ (identifying.slot 0).state.isProven = false := by decide +kernel

theorem witness_O51 :
    (identifying.slot 0).attempts + 1 < (identifying.slot 0).allowance ∧ (printing.slot 3).state = .genuine
      ∧ (heldOff.slot 0).allowance ≤ (heldOff.slot 0).attempts + 1 := by decide +kernel

/-- O51, the give-up: LIMITED mode at the round limit of 3. -/
theorem witness_O51_giveUp :
    let s : State :=
      { identifying with
        slots := identifying.slots.set 0 { SlotRecord.fresh with state := .identifying, allowance := 1, round := 3 } }
    ¬(s.slot 0).attempts + 1 < (s.slot 0).allowance ∧ s.tables.settings[15] = 0
      ∧ s.tables.settings[14] ≤ (s.slot 0).round := by decide +kernel

/-- O51, the give-up of a bound slot in an open swath. -/
theorem witness_O51_bound :
    let s : State :=
      { printing with
        slots := printing.slots.set 3 { magentaSlot with allowance := 1, round := 3 } }
    ¬(s.slot 3).attempts + 1 < (s.slot 3).allowance ∧ s.tables.settings[15] = 0
      ∧ s.tables.settings[14] ≤ (s.slot 3).round ∧ (s.slot 3).binding = some ⟨magenta, 0⟩
      ∧ s.swath.descriptor.isSome = true := by decide +kernel

/-- Slot 3 bound and AUTHENTICATING, not yet proven. -/
def authenticating : State :=
  { printing with
    slots := printing.slots.set 3 { magentaSlot with state := .authenticating, proven := false, level := none, band := .none } }

theorem witness_O52 :
    (authenticating.slot 3).state = .authenticating ∧ (authenticating.slot 3).binding = some ⟨magenta, 0⟩
      ∧ authenticating.entry magenta.serial = some magentaEntry ∧ magentaEntry.residence = some 3
      ∧ (authenticating.known.map Entry.serial).Nodup ∧ settingsAgree authenticating.tables.settings = true := by
  decide +kernel

/-- O52, a GENUINE slot whose commit record is IN DOUBT; and a level that a refill would show, one in agreement, and one that
falls short of the level held. -/
theorem witness_O52_genuine :
    let s : State :=
      { printing with
        commits := { printing.commits with records := printing.commits.records.set 3 ⟨.inDoubt 248900 41230000, true⟩ } }
    (s.slot 3).state = .genuine ∧ magentaEntry.suspect = false ∧ s.entry magenta.serial = some magentaEntry
      ∧ (s.commit 3).phase = .inDoubt 248900 41230000 ∧ (s.slot 3).level = some 41230000
      ∧ 41230000 + s.tables.settings[7] < 700000000 ∧ 0 < 41230000 - s.tables.settings[7]
      ∧ s.tables.classes[0].ceiling < 4294967295 := by decide +kernel

/-- O52, an entry whose refurbishment waits for a valid tag, and a SUSPECT slot with its mark. -/
theorem witness_O52_refurbished :
    let e : Entry := { magentaEntry with suspect := true, exhausted := true, carried := some 0, refurbished := true }
    let s : State :=
      { printing with slots := printing.slots.set 3 { magentaSlot with state := .suspect }, known := [e] }
    (s.slot 3).state = .suspect ∧ s.entry magenta.serial = some e ∧ e.suspect = true ∧ e.refurbished = true
      ∧ e.residence = some 3 ∧ (s.known.map Entry.serial).Nodup := by decide +kernel

/-- O52, the tag that the reply must carry, here with a level of 41,230,000 nL. -/
theorem witness_O52_tag :
    let tag := challengeTag authenticating.tables ⟨magenta, 0⟩ 9#32 41230000
    let fields := leBytes 4 41230000 ++ leBytes 4 tag.toNat
    BitVec.ofNat 32 (leField fields 4 4) = challengeTag authenticating.tables ⟨magenta, 0⟩ 9#32 (leField fields 0 4) := by
  decide +kernel

theorem witness_O53_confirmed :
    let tag := debitTag debiting.tables 0 nonceStep 0x11223344#32 40979334 250666
    let fields := leBytes 4 40979334 ++ leBytes 4 tag.toNat
    debiting.commits.orphan = none ∧ (debiting.commit 3).phase = .inFlight 250666 nonceStep 41230000 0x11223344#32 0
      ∧ (debiting.slot 3).binding = some ⟨magenta, 0⟩
      ∧ BitVec.ofNat 32 (leField fields 4 4)
        = debitTag debiting.tables 0 nonceStep 0x11223344#32 (leField fields 0 4) 250666 := by decide +kernel

/-- O53, a wrong tag: the entry of slot 3 and its mark. -/
theorem witness_O53_wrong :
    BitVec.ofNat 32 (leField [0#8, 0#8, 0#8, 0#8, 0#8, 0#8, 0#8, 0#8] 4 4)
        ≠ debitTag debiting.tables 0 nonceStep 0x11223344#32 (leField [0#8, 0#8, 0#8, 0#8, 0#8, 0#8, 0#8, 0#8] 0 4) 250666
      ∧ debiting.entry 0x11223344#32 = some magentaEntry ∧ magentaEntry.residence = some 3
      ∧ (debiting.known.map Entry.serial).Nodup ∧ magentaEntry.suspect = false := by decide +kernel

theorem witness_O53_orphan :
    (after (.removal 3) leavingDebit).commits.orphan = some ⟨3, 250666, nonceStep, 41230000, 0x11223344#32, 0⟩ := by
  decide +kernel

/-- A full list of OUT entries of which the last is exhausted, and one of exhausted entries alone. -/
def fullList (exhausted : Nat → Bool) : List Entry :=
  (List.range 48).map fun j =>
    { magentaEntry with serial := BitVec.ofNat 32 j, residence := none, exhausted := exhausted j }

theorem witness_O54 :
    48 ≤ (fullList (fun j => j == 47)).length ∧ (∃ e ∈ fullList (fun j => j == 47), e.residence = none)
      ∧ (∀ e ∈ fullList (fun j => j == 47), e.serial ≠ magenta.serial)
      ∧ evictionIndex (fullList fun j => j == 47) = some 46
      ∧ (∀ e ∈ fullList (fun _ => true), e.serial ≠ magenta.serial)
      ∧ evictionIndex (fullList fun _ => true) = some 47 := by decide +kernel

/-- O55, O56, O58, O59, O60: each request at the front of the queue with a free reply place. -/
theorem witness_O55 : ∀ code ∈ [1#8, 2#8, 3#8, 4#8, 5#8, 6#8, 7#8, 8#8, 9#8, 10#8, 11#8, 12#8, 0#8, 14#8],
    (asking code [0#8]).run = .running ∧ (asking code [0#8]).link.replies.length < 4
      ∧ (asking code [0#8]).decoder.requests.head? = some ⟨code, 7#8, [0#8]⟩ := by decide

theorem witness_O56 : (asking 1#8 []).offers ⟨1#8, 7#8, []⟩ := ⟨by decide, rfl⟩

theorem witness_O59_events : (asking 7#8 []).offers ⟨7#8, 7#8, []⟩ ∧ (asking 7#8 [5#8]).offers ⟨7#8, 7#8, [5#8]⟩ :=
  ⟨⟨by decide, rfl⟩, by decide, rfl⟩

/-- O57: a load of slot 3's enable to 0, of its class, and of the settings' first two. -/
theorem witness_O57 :
    (∀ j < 1, (byteAt [0#8, 0xFF#8] (2 * j)).toNat ≤ 1) ∧ (∃ j < 1, 1 < (byteAt [2#8, 0xFF#8] (2 * j)).toNat)
      ∧ printing.tables.sockets[3].enabled = true ∧ (printing.slot 3).state ≠ .empty ∧ printing.watch 3 = .seated
      ∧ (printing.known.map Entry.serial).Nodup ∧ printing.swath.descriptor.isSome = true
      ∧ (∀ j < 2, settingInRange (0 + j) (leField [24#8, 0#8, 0#8, 0#8, 8#8, 0#8, 0#8, 0#8] (4 * j) 4) = true) := by
  decide +kernel

/-- O57, a class load: the 15 bytes of class 0 with a lower ceiling, which the slot bound to it feels. -/
theorem witness_O57_classes :
    let bs : List Byte := [1#8, 0#8, 0#8, 0#8, 0#8, 0#8, 0#8, 1#8, 0#8, 0#8, 0#8, 100#8, 0#8, 50#8, 0#8]
    (byteAt bs 0).toNat ≤ 1 ∧ (byteAt bs 6).toNat ≤ 7 ∧ leField bs 11 2 ≤ 1000 ∧ leField bs 13 2 ≤ leField bs 11 2
      ∧ (∀ k : Fin 16, printing.tables.classes[k].reserve ≤ printing.tables.classes[k].low)
      ∧ (printing.slot 3).binding = some ⟨magenta, 0⟩ ∧ (printing.slot 3).state.isProven = true
      ∧ (printing.slot 3).level = some 41230000 := by decide +kernel

/-- O60: SECTION_WRITTEN of each section, SAVE_COMPLETE, and stage 1 of parking at its end. -/
theorem witness_O60 :
    let s := after .saveStore (asking 12#8 [])
    (s.store.save.map Save.writing) = some .config
      ∧ ((after .sectionWritten s).store.save.map Save.writing) = some .keys
      ∧ ((after .sectionWritten (after .sectionWritten s)).store.save.map Save.writing) = some .known := by decide +kernel

/-- O60, what a save writes: tables in their ranges, and a list whose values lie in theirs. -/
theorem witness_O60_sections :
    exampleTables.sound ∧ ([magentaEntry].map Entry.serial).Nodup ∧ magentaEntry.lastLevel = some 41230000
      ∧ magentaEntry.carried = none ∧ magentaEntry.refurbished = false :=
  ⟨exampleTables_sound, by decide, rfl, rfl, rfl⟩

theorem witness_O60_parking :
    ({ printing with decoder := { Decoder.fresh with park := .parking .commits } } : State).bindingsAgree :=
  printing_bindingsAgree

end Sys2Proof.Tests
end

section
/-! PROOFS. The transmitters: what `sendNext` begins and leaves (R9, R12), and that nothing then waits for a transmitter that
sends FILL. -/

namespace Sys2Proof.Machine

/-! ### HEAD OUT -/

/-- A transmitter that is sending begins nothing. -/
theorem Link.beginDown_sending {l : Link} {f : Frame} (h : l.downTx = some f) : l.beginDown = l := by
  simp only [Link.beginDown, h]

/-- Nothing is begun where nothing waits. -/
theorem Link.beginDown_empty {l : Link} (h : l.forward = []) : l.beginDown = l := by
  unfold Link.beginDown
  split
  · simp_all
  · rfl

/-- A free transmitter begins the oldest frame of the forward queue (R9). -/
theorem Link.beginDown_cons {l : Link} {f : Frame} {rest : List Frame} (h : l.downTx = none) (hf : l.forward = f :: rest) :
    l.beginDown = { l with downTx := some f, forward := rest } := by
  simp only [Link.beginDown, h, hf]

/-- No frame of HEAD OUT is lost or overtaken. -/
theorem Link.beginDown_frames (l : Link) :
    l.beginDown.downTx.toList ++ l.beginDown.forward = l.downTx.toList ++ l.forward := by
  rcases l.beginDown_cases with h | ⟨f, rest, hd, hf, h⟩
  · rw [h]
  · simp [h, hd, hf]

/-- After HEAD OUT's beginning no frame waits for a free transmitter. -/
theorem Link.beginDown_idle (l : Link) (h : l.beginDown.downTx = none) : l.beginDown.forward = [] := by
  rcases hd : l.downTx with _ | f
  · rcases hf : l.forward with _ | ⟨f, rest⟩
    · rw [Link.beginDown_empty hf, hf]
    · rw [Link.beginDown_cons hd hf] at h
      cases h
  · rw [Link.beginDown_sending hd, hd] at h
    cases h

/-- HEAD OUT's beginning leaves FMT OUT's side and the receivers. -/
theorem Link.beginDown_eq (l : Link) :
    ∃ d q, l.beginDown = { l with downTx := d, forward := q } ∧ q.length ≤ l.forward.length := by
  rcases l.beginDown_cases with h | ⟨f, rest, hd, hf, h⟩
  · exact ⟨l.downTx, l.forward, h, le_refl _⟩
  · exact ⟨_, _, h, by simp [hf]⟩

@[simp] theorem Link.beginDown_upTx (l : Link) : l.beginDown.upTx = l.upTx := by
  obtain ⟨_, _, h, _⟩ := l.beginDown_eq; rw [h]
@[simp] theorem Link.beginDown_replies (l : Link) : l.beginDown.replies = l.replies := by
  obtain ⟨_, _, h, _⟩ := l.beginDown_eq; rw [h]
@[simp] theorem Link.beginDown_passThrough (l : Link) : l.beginDown.passThrough = l.passThrough := by
  obtain ⟨_, _, h, _⟩ := l.beginDown_eq; rw [h]
@[simp] theorem Link.beginDown_strap (l : Link) : l.beginDown.strap = l.strap := by
  obtain ⟨_, _, h, _⟩ := l.beginDown_eq; rw [h]

/-! ### FMT OUT -/

/-- A transmitter that is sending begins nothing. -/
theorem beginUp_sending {s : State} {f : Frame} (h : s.link.upTx = some f) : s.beginUp = s := by
  simp only [State.beginUp, h]

/-- A free transmitter begins the oldest REPLY (R12). -/
theorem beginUp_reply {s : State} {f : Frame} {rest : List Frame} (h : s.link.upTx = none)
    (hr : s.link.replies = f :: rest) : s.beginUp = s.onLink fun l => { l with upTx := some f, replies := rest } := by
  simp only [State.beginUp, h, hr]

/-- With no REPLY it begins the oldest pass-through frame (R12). -/
theorem beginUp_pass {s : State} {f : Frame} {rest : List Frame} (h : s.link.upTx = none) (hr : s.link.replies = [])
    (hp : s.link.passThrough = f :: rest) :
    s.beginUp = s.onLink fun l => { l with upTx := some f, passThrough := rest } := by
  simp only [State.beginUp, h, hr, hp]

theorem Link.free_eq {l : Link} (h : l.upTx = none) : ({ l with upTx := none } : Link) = l := by
  rw [← h]

theorem EventUnit.unready_eq {u : EventUnit} (h : u.noticeReady = false) : ({ u with noticeReady := false } : EventUnit) = u := by
  rw [← h]

/-- With neither it begins the NOTICE held ready, or sends FILL (R12). -/
theorem beginUp_notice {s : State} (h : s.link.upTx = none) (hr : s.link.replies = []) (hp : s.link.passThrough = []) :
    s.beginUp =
      (s.onLink fun l =>
        { l with upTx := if s.events.noticeReady then some (makeFrame .notice l.address s.events.noticePayload) else none }).onEvents
          fun u => { u with noticeReady := false } := by
  simp only [State.beginUp, h, hr, hp]
  split
  · rfl
  · rename_i hn
    simp only [State.onLink, State.onEvents, Link.free_eq h, EventUnit.unready_eq (Bool.eq_false_of_not_eq_true hn)]

/-- FMT OUT's beginning leaves HEAD OUT's side. -/
theorem beginUp_down (s : State) : s.beginUp.link.downTx = s.link.downTx ∧ s.beginUp.link.forward = s.link.forward := by
  rcases beginUp_cases s with h | ⟨_, _, _, _, h⟩ | ⟨_, _, _, _, _, h⟩ | ⟨_, _, _, _, h⟩ <;> rw [h] <;> exact ⟨rfl, rfl⟩

/-! ### Nothing waits for a free transmitter -/

/-- Nothing waits for a transmitter that sends FILL (R9, R12). -/
def State.sends (s : State) : Prop :=
  (s.link.downTx = none → s.link.forward = [])
    ∧ (s.link.upTx = none → s.link.replies = [] ∧ s.link.passThrough = [] ∧ s.events.noticeReady = false)

/-- After FMT OUT's beginning nothing waits for it while it sends FILL. -/
theorem beginUp_idle (s : State) (h : s.beginUp.link.upTx = none) :
    s.beginUp.link.replies = [] ∧ s.beginUp.link.passThrough = [] ∧ s.beginUp.events.noticeReady = false := by
  rcases hu : s.link.upTx with _ | f
  · rcases hr : s.link.replies with _ | ⟨f, rest⟩
    · rcases hp : s.link.passThrough with _ | ⟨f, rest⟩
      · rw [beginUp_notice hu hr hp]
        exact ⟨hr, hp, rfl⟩
      · rw [beginUp_pass hu hr hp] at h
        cases h
    · rw [beginUp_reply hu hr] at h
      cases h
  · rw [beginUp_sending hu, hu] at h
    cases h

theorem sendNext_sends (s : State) : s.sendNext.sends := by
  refine ⟨fun h => ?_, beginUp_idle _⟩
  obtain ⟨hd, hf⟩ := beginUp_down (s.onLink Link.beginDown)
  unfold State.sendNext at h ⊢
  rw [hd] at h
  rw [hf]
  exact s.link.beginDown_idle h

theorem finish_sends (s : State) : s.finish.sends := sendNext_sends _

end Sys2Proof.Machine
end

section
/-! PROOFS. What an operation can do to the Link Interface, said once: the bounds that its queues keep, and for the operations of
receipt what they leave (R5, R7, R10, R13, R156). -/

namespace Sys2Proof.Machine

/-! ### The bounds of the Link Interface -/

/-- What `State.linkBounded` says of the Link Interface alone. -/
structure Link.Bounded (l : Link) : Prop where
  forward : l.forward.length ≤ 4
  passThrough : l.passThrough.length ≤ 8
  replies : l.replies.length ≤ 4
  crcErrors : l.crcErrors ≤ 65535
  receiver : ∀ bytes, l.receiver = some bytes → bytes.length ≤ maxFrameBytes
  headReceiver : ∀ bytes, l.headReceiver = some bytes → bytes.length ≤ maxFrameBytes
  lossTimer : l.lossTimer.isSome = l.up

theorem linkBounded_iff (s : State) : s.linkBounded ↔ s.link.Bounded ∧ s.decoder.requests.length ≤ 4 := by
  constructor
  · rintro ⟨hf, hp, hr, hq, hc, hx, hh, hl⟩
    exact ⟨⟨hf, hp, hr, hc, hx, hh, hl⟩, hq⟩
  · rintro ⟨⟨hf, hp, hr, hc, hx, hh, hl⟩, hq⟩
    exact ⟨hf, hp, hr, hq, hc, hx, hh, hl⟩

theorem Link.Bounded.beginDown {l : Link} (h : l.Bounded) : l.beginDown.Bounded := by
  obtain ⟨d, q, he, hq⟩ := l.beginDown_eq
  rw [he]
  exact { h with forward := hq.trans h.forward }

theorem beginUp_bounded {s : State} (h : s.link.Bounded) : s.beginUp.link.Bounded := by
  rcases beginUp_cases s with e | ⟨_, _, _, hr, e⟩ | ⟨_, _, _, _, hp, e⟩ | ⟨_, _, _, _, e⟩ <;> rw [e]
  · exact h
  · exact { h with replies := (Nat.le_succ _).trans (by simpa [hr] using h.replies) }
  · exact { h with passThrough := (Nat.le_succ _).trans (by simpa [hp] using h.passThrough) }
  · exact { h with }

theorem sendNext_bounded {s : State} (h : s.link.Bounded) : s.sendNext.link.Bounded := beginUp_bounded h.beginDown

@[simp] theorem finish_requests (s : State) : s.finish.decoder.requests = s.decoder.requests := by
  simp [State.finish]

theorem finish_bounded {s : State} (h : s.link.Bounded) : s.finish.link.Bounded :=
  sendNext_bounded (by simpa using h)

/-- `sendNext` takes no REPLY where FMT OUT is busy or none waits. -/
theorem sendNext_replies {s : State} (h : s.link.upTx = none → s.link.replies = []) :
    s.sendNext.link.replies = s.link.replies := by
  rcases beginUp_cases (s.onLink Link.beginDown) with e | ⟨_, _, hu, hr, _⟩ | ⟨_, _, _, _, _, e⟩ | ⟨_, _, _, _, e⟩
  · simp [State.sendNext, e]
  · simp only [State.onLink_link, Link.beginDown_upTx, Link.beginDown_replies] at hu hr
    rw [h hu] at hr
    cases hr
  · simp [State.sendNext, e]
  · simp [State.sendNext, e]

/-! ### Operations that leave the link -/

/-- The link, the request queue and the run phase are as before. -/
structure State.OffLink (s t : State) : Prop where
  run : t.run = s.run
  link : t.link = s.link
  requests : t.decoder.requests = s.decoder.requests

theorem State.OffLink.trans {s t u : State} (h : s.OffLink t) (g : t.OffLink u) : s.OffLink u :=
  ⟨g.run.trans h.run, g.link.trans h.link, g.requests.trans h.requests⟩

theorem State.OffLink.refl (s : State) : s.OffLink s := ⟨rfl, rfl, rfl⟩

theorem Moves.offLink {s t : State} (h : Moves s t) : s.OffLink t :=
  ⟨h.run, h.link, by rw [h.decoder]⟩

theorem raise_offLink (s : State) (k : EventKind) (i : Nat) (d : Word) : s.OffLink (s.raise k i d) := ⟨rfl, rfl, rfl⟩

theorem onSwath_offLink (s : State) (f : SwathPath → SwathPath) : s.OffLink (s.onSwath f) := ⟨rfl, rfl, rfl⟩

/-! ### Operations that forward frames -/

/-- At most `k` frames are added at the back of the forward queue; the link, the request queue and the run phase are otherwise as
before. -/
structure State.Forwards (k : Nat) (s t : State) : Prop where
  run : t.run = s.run
  link : ∃ fs, fs.length ≤ k ∧ t.link = { s.link with forward := s.link.forward ++ fs }
  requests : t.decoder.requests = s.decoder.requests

theorem State.OffLink.forwards {s t : State} (h : s.OffLink t) : State.Forwards 0 s t :=
  ⟨h.run, ⟨[], le_refl _, by simp [h.link]⟩, h.requests⟩

theorem State.Forwards.trans {j k : Nat} {s t u : State} (h : State.Forwards j s t) (g : State.Forwards k t u) :
    State.Forwards (j + k) s u := by
  obtain ⟨fs, hl, hs⟩ := h.link
  obtain ⟨gs, gl, gt⟩ := g.link
  refine ⟨g.run.trans h.run, ⟨fs ++ gs, ?_, ?_⟩, g.requests.trans h.requests⟩
  · rw [List.length_append]
    exact Nat.add_le_add hl gl
  · simp [gt, hs]

theorem State.Forwards.mono {j k : Nat} {s t : State} (h : State.Forwards j s t) (hk : j ≤ k) : State.Forwards k s t := by
  obtain ⟨fs, hl, hs⟩ := h.link
  exact ⟨h.run, ⟨fs, hl.trans hk, hs⟩, h.requests⟩

theorem forward_forwards (s : State) (fs : List Frame) : State.Forwards fs.length s (s.forward fs) :=
  ⟨rfl, ⟨fs, le_refl _, rfl⟩, rfl⟩

theorem endSwath_offLink (s : State) (d : Descriptor) : s.OffLink (s.endSwath d) :=
  (moves_handOver s d).offLink.trans (onSwath_offLink _ _)

theorem truncate_offLink (s : State) : s.OffLink s.truncate := by
  unfold State.truncate
  split
  · exact (endSwath_offLink s _).trans (raise_offLink _ _ _ _)
  · exact .refl s

theorem truncationFrames_length (s : State) : s.truncationFrames.length ≤ 1 := by
  unfold State.truncationFrames
  split <;> simp

theorem promote_offLink (s : State) : s.OffLink s.promote := by
  unfold State.promote
  dsimp only
  split <;> exact ⟨rfl, rfl, rfl⟩

theorem strayFire_offLink (s : State) : s.OffLink s.strayFire := by
  unfold State.strayFire
  split
  · exact .refl s
  · exact raise_offLink _ _ _ _

/-- A SWATH OPEN forwards its frame, if it opens, and the SWATH CLOSE of a swath it truncates (R7, R35). -/
theorem takeSwathOpen_forwards (s : State) (f : RxFrame) : State.Forwards 2 s (s.takeSwathOpen f) := by
  have h : State.Forwards 1 s (s.truncate.forward s.truncationFrames) :=
    ((truncate_offLink s).forwards.trans (forward_forwards _ _)).mono (by simpa using truncationFrames_length s)
  unfold State.takeSwathOpen
  dsimp only
  split
  · have g := (promote_offLink (s.truncate.forward s.truncationFrames)).trans
      (u := (s.truncate.forward s.truncationFrames).promote.recordOpening f.payload) ⟨rfl, rfl, rfl⟩
    exact (h.trans g.forwards).trans (forward_forwards _ [_])
  · exact (h.trans (State.OffLink.forwards (.trans (raise_offLink _ _ _ _) (onSwath_offLink _ _)))).mono (Nat.le_succ _)

theorem fireKept_forwards (s : State) (f : RxFrame) (d : Descriptor) (u : HeadUse) (i : LaneIndex) (kept : Nat) :
    State.Forwards 1 s (s.fireKept f d u i kept) := by
  unfold State.fireKept
  dsimp only
  refine State.Forwards.trans (State.OffLink.forwards ?_) (forward_forwards _ [_])
  split <;> split <;> exact ⟨rfl, rfl, rfl⟩

/-- A FIRE forwards at most its frame (R7). -/
theorem takeFire_forwards (s : State) (f : RxFrame) : State.Forwards 1 s (s.takeFire f) := by
  unfold State.takeFire
  split
  · exact (strayFire_offLink s).forwards.mono (Nat.le_succ _)
  · dsimp only
    have h (p : Prop) [Decidable p] (x : Word) : s.OffLink (if p then s.raise .columnOverrun 0 x else s) := by
      split
      · exact raise_offLink _ _ _ _
      · exact .refl s
    split
    · exact (h _ _).forwards.mono (Nat.le_succ _)
    · exact (h _ _).forwards.trans (fireKept_forwards _ f _ _ _ _)

/-- A SWATH CLOSE forwards at most its frame (R7). -/
theorem takeSwathClose_forwards (s : State) (f : RxFrame) : State.Forwards 1 s (s.takeSwathClose f) := by
  unfold State.takeSwathClose
  split
  · exact (endSwath_offLink s _).forwards.trans (forward_forwards _ [_])
  · exact ((strayFire_offLink s).trans (onSwath_offLink _ _)).forwards.mono (Nat.le_succ _)

/-! ### Operations of receipt -/

/-- The bounds are kept; FMT OUT, the reply queue, the request queue and the run phase are as before. -/
structure State.Receives (s t : State) : Prop where
  run : t.run = s.run
  upTx : t.link.upTx = s.link.upTx
  replies : t.link.replies = s.link.replies
  requests : t.decoder.requests = s.decoder.requests
  bounded : s.link.Bounded → t.link.Bounded

theorem State.Receives.trans {s t u : State} (h : s.Receives t) (g : t.Receives u) : s.Receives u :=
  ⟨g.run.trans h.run, g.upTx.trans h.upTx, g.replies.trans h.replies, g.requests.trans h.requests, g.bounded ∘ h.bounded⟩

theorem State.OffLink.receives {s t : State} (h : s.OffLink t) : s.Receives t :=
  ⟨h.run, by rw [h.link], by rw [h.link], h.requests, fun b => h.link ▸ b⟩

theorem State.Forwards.receives {k : Nat} {s t : State} (h : State.Forwards k s t) (hp : s.hasPlaces k = true) :
    s.Receives t := by
  obtain ⟨fs, hl, hs⟩ := h.link
  simp only [State.hasPlaces, decide_eq_true_eq] at hp
  refine ⟨h.run, by rw [hs], by rw [hs], h.requests, fun b => ?_⟩
  rw [hs]
  refine { b with forward := ?_ }
  simp only [List.length_append]
  omega

theorem discardFrame_receives (s : State) : s.Receives s.discardFrame :=
  ⟨rfl, rfl, rfl, rfl, fun b => { b with crcErrors := min_le_right _ _ }⟩

theorem symbolArrives_receives (s : State) : s.Receives s.symbolArrives :=
  ⟨rfl, rfl, rfl, rfl, fun b => { b with lossTimer := rfl }⟩

theorem setReceiver_receives (s : State) (r : Option (List Byte)) (hr : s.link.Bounded → ∀ b, r = some b → b.length ≤ maxFrameBytes) :
    s.Receives (s.setReceiver r) :=
  ⟨rfl, rfl, rfl, rfl, fun b => { b with receiver := hr b }⟩

theorem setHeadReceiver_receives (s : State) (r : Option (List Byte))
    (hr : s.link.Bounded → ∀ b, r = some b → b.length ≤ maxFrameBytes) : s.Receives (s.setHeadReceiver r) :=
  ⟨rfl, rfl, rfl, rfl, fun b => { b with headReceiver := hr b }⟩

theorem passThrough_receives (s : State) (f : Frame) : s.Receives (s.passThrough f) := by
  refine ⟨rfl, rfl, rfl, rfl, fun b => { b with passThrough := ?_ }⟩
  have h := b.passThrough
  simp only [State.passThrough, State.onLink_link, List.length_append, List.length_singleton]
  split
  · omega
  · rw [List.length_drop]
    omega

theorem frameArrives_receives (s : State) : s.Receives s.frameArrives := by
  unfold State.frameArrives
  dsimp only
  split
  · exact ((symbolArrives_receives s).trans (discardFrame_receives _)).trans (setReceiver_receives _ _ (by simp))
  · exact symbolArrives_receives s

theorem headFrameArrives_receives (s : State) : s.Receives s.headFrameArrives := by
  unfold State.headFrameArrives
  split
  · exact (discardFrame_receives s).trans (setHeadReceiver_receives _ _ (by simp))
  · exact ⟨rfl, rfl, rfl, rfl, id⟩

/-- A frame that is no REQUEST leaves the request queue and finds its places, or is discarded (R7). -/
theorem takeFmtFrame_receives (s : State) (k : FrameKind) (f : RxFrame) (hk : k ≠ .request) :
    s.Receives (s.takeFmtFrame k f) := by
  have places {n : Nat} {t : State} (h : State.Forwards n s t) :
      s.Receives (if s.hasPlaces n then t else s.discardFrame) := by
    split
    · exact h.receives ‹_›
    · exact discardFrame_receives s
  cases k with
  | swathOpen => exact places (takeSwathOpen_forwards s f)
  | fire => exact places (takeFire_forwards s f)
  | swathClose => exact places (takeSwathClose_forwards s f)
  | request => exact absurd rfl hk
  | reply | notice | headStatus => exact discardFrame_receives s

theorem readStatus_offLink (s : State) (p : List Byte) : s.OffLink (s.readStatus p) := by
  unfold State.readStatus
  split
  · split
    · exact ⟨rfl, rfl, rfl⟩
    · exact .refl s
  · exact .refl s

theorem takeHeadFrame_receives (s : State) (k : FrameKind) (f : RxFrame) : s.Receives (s.takeHeadFrame k f) := by
  unfold State.takeHeadFrame
  split
  · exact (readStatus_offLink s _).receives.trans (passThrough_receives _ _)
  · exact passThrough_receives s _

theorem receiveFmt_receives (s : State) (k : FrameKind) (f : RxFrame) (hk : k ≠ .request) :
    s.Receives (s.receiveFmt k f) := by
  refine (frameArrives_receives s).trans ?_
  unfold State.receiveFmt
  dsimp only
  split
  · exact takeFmtFrame_receives _ k f hk
  · exact discardFrame_receives _

theorem receiveHead_receives (s : State) (k : FrameKind) (f : RxFrame) : s.Receives (s.receiveHead k f) := by
  refine (headFrameArrives_receives s).trans ?_
  unfold State.receiveHead
  dsimp only
  split
  · exact takeHeadFrame_receives _ k f
  · exact discardFrame_receives _

theorem receiveHeadSymbol_receives (s : State) (x : Symbol) : s.Receives (s.receiveHeadSymbol x) := by
  refine (setHeadReceiver_receives s (receive s.link.headReceiver x).1 fun b _ =>
    receive_length _ x _ b.headReceiver).trans ?_
  unfold State.receiveHeadSymbol
  dsimp only
  split
  · exact (State.OffLink.refl _).receives
  · exact discardFrame_receives _
  · split
    · exact takeHeadFrame_receives _ _ _
    · exact discardFrame_receives _

theorem receiveDiscarded_receives (s : State) (d : Discarded) : s.Receives (s.receiveDiscarded d) := by
  cases d with
  | headSymbol x => exact receiveHeadSymbol_receives s x
  | headFrame _ => exact (headFrameArrives_receives s).trans (discardFrame_receives _)
  | fmtFrame _ => exact (frameArrives_receives s).trans (discardFrame_receives _)

/-! ### Receipt that may queue a request -/

/-- The bounds are kept, of the request queue too, and the run phase is as before. -/
structure State.KeepsBounds (s t : State) : Prop where
  run : t.run = s.run
  bounded : s.linkBounded → t.linkBounded

theorem State.KeepsBounds.trans {s t u : State} (h : s.KeepsBounds t) (g : t.KeepsBounds u) : s.KeepsBounds u :=
  ⟨g.run.trans h.run, g.bounded ∘ h.bounded⟩

theorem State.Receives.keepsBounds {s t : State} (h : s.Receives t) : s.KeepsBounds t := by
  refine ⟨h.run, fun b => ?_⟩
  rw [linkBounded_iff] at b ⊢
  exact ⟨h.bounded b.1, h.requests ▸ b.2⟩

theorem queueRequest_keepsBounds (s : State) (r : Request) : s.KeepsBounds (s.queueRequest r) := by
  unfold State.queueRequest
  split
  · refine ⟨rfl, fun b => ?_⟩
    rw [linkBounded_iff] at b ⊢
    refine ⟨b.1, ?_⟩
    simp only [State.onDecoder_decoder, List.length_append, List.length_singleton]
    omega
  · exact (raise_offLink s _ _ _).receives.keepsBounds

theorem takeFmtFrame_keepsBounds (s : State) (k : FrameKind) (f : RxFrame) : s.KeepsBounds (s.takeFmtFrame k f) := by
  by_cases hk : k = .request
  · subst hk
    change s.KeepsBounds (s.takeRequestFrame f)
    unfold State.takeRequestFrame
    split
    · exact queueRequest_keepsBounds s _
    · split
      · exact ((forward_forwards s [_]).receives ‹_›).keepsBounds
      · exact (discardFrame_receives s).keepsBounds
  · exact (takeFmtFrame_receives s k f hk).keepsBounds

theorem receiveFmt_keepsBounds (s : State) (k : FrameKind) (f : RxFrame) : s.KeepsBounds (s.receiveFmt k f) := by
  refine (frameArrives_receives s).keepsBounds.trans ?_
  unfold State.receiveFmt
  dsimp only
  split
  · exact takeFmtFrame_keepsBounds _ k f
  · exact (discardFrame_receives _).keepsBounds

theorem receiveSymbol_keepsBounds (s : State) (x : Symbol) : s.KeepsBounds (s.receiveSymbol x) := by
  refine (setReceiver_receives s (receive s.link.receiver x).1 fun b _ => receive_length _ x _ b.receiver).keepsBounds.trans ?_
  unfold State.receiveSymbol
  dsimp only
  split
  · exact (State.OffLink.refl _).receives.keepsBounds
  · exact (discardFrame_receives _).keepsBounds
  · split
    · exact takeFmtFrame_keepsBounds _ _ _
    · exact (discardFrame_receives _).keepsBounds

end Sys2Proof.Machine
end

section
/-! PROOFS. What acting on a request can do to the Print Link (R155, R157): every request but LINK RESET leaves the link, the request
queue and the run phase, and LINK RESET empties both queues (R15). -/

namespace Sys2Proof.Machine

/-! ### The forms of arguments -/

/-- A refusal leaves the state; where the form is right, the act decides. -/
theorem bare_offLink {act : State → State × Reply} {s : State} (h : s.OffLink (act s).1) (args : List Byte) :
    s.OffLink (bare act s args).1 := by
  unfold bare
  split
  · exact h
  · exact .refl s

theorem bareOperation_offLink {act : State → State × Reply} {s : State} (h : s.OffLink (act s).1) (args : List Byte) :
    s.OffLink (bareOperation act s args).1 := by
  unfold bareOperation
  split
  · exact h
  · exact .refl s

theorem slotArgument_offLink {act : State → Slot → State × Reply} {s : State} (h : ∀ n, s.OffLink (act s n).1)
    (args : List Byte) : s.OffLink (slotArgument act s args).1 := by
  unfold slotArgument
  split
  · split
    · exact h _
    · exact .refl s
  · exact .refl s

/-! ### The requests -/

theorem onTables_offLink (s : State) (f : Tables → Tables) : s.OffLink (s.onTables f) := ⟨rfl, rfl, rfl⟩

theorem onEvents_offLink (s : State) (f : EventUnit → EventUnit) : s.OffLink (s.onEvents f) := ⟨rfl, rfl, rfl⟩

theorem setPark_offLink (s : State) (p : Park) : s.OffLink (s.setPark p) := ⟨rfl, rfl, rfl⟩

/-- A sequence of moves over a list of slots. -/
theorem foldl_offLink {α : Type} {g : State → α → State} (hg : ∀ s a, Moves s (g s a)) (l : List α) {s t : State}
    (h : s.OffLink t) : s.OffLink (l.foldl g t) :=
  h.trans (Moves.foldl hg l t).offLink

/-- The entries of a LOAD TABLE change tables and copies, and what the supply blocks do with them. -/
theorem loadEntries_offLink (s : State) (t : TableId) (first written : Nat) (final : Bool) (bs : List Byte) :
    ∀ u, s.loadEntries t first written final bs = some u → s.OffLink u := by
  intro u h
  cases t <;> simp only [State.loadEntries, Option.map_eq_some_iff, Option.bind_eq_some_iff] at h
  case drop | curve | lanes | thin | policy =>
    obtain ⟨_, _, h⟩ := h
    rw [← h]
    exact ⟨rfl, rfl, rfl⟩
  case keys =>
    obtain ⟨_, _, h⟩ := h
    rw [← h]
    exact onTables_offLink s _
  case sockets =>
    obtain ⟨_, _, h⟩ := h
    rw [← h]
    exact foldl_offLink (moves_socketLoaded _) _ (onTables_offLink s _)
  case classes =>
    obtain ⟨_, _, h⟩ := h
    split at h
    · rw [← Option.some.inj h]
      exact foldl_offLink (moves_classLoaded first written) _ (onTables_offLink s _)
    · cases h
  case settings =>
    obtain ⟨_, _, h⟩ := h
    split at h
    · rw [← Option.some.inj h]
      exact (onTables_offLink s _).trans (moves_settingsLoaded _).offLink
    · cases h

theorem loadTable_offLink (s : State) (args : List Byte) : s.OffLink (s.loadTable args).1 := by
  unfold State.loadTable
  split
  · exact .refl s
  · split
    · exact .refl s
    · dsimp only
      split
      · exact .refl s
      · split
        · exact .refl s
        · split
          · exact .refl s
          · split
            · exact loadEntries_offLink s _ _ _ _ _ _ ‹_›
            · exact .refl s

theorem readTable_offLink (s : State) (args : List Byte) : s.OffLink (s.readTable args).1 := by
  unfold State.readTable
  split
  · split
    · exact .refl s
    · split
      · exact .refl s
      · split <;> exact .refl s
  · exact .refl s

theorem lockTable_offLink (s : State) (args : List Byte) : s.OffLink (s.lockTable args).1 := by
  unfold State.lockTable
  split
  · split
    · exact .refl s
    · split
      · exact .refl s
      · split
        · exact .refl s
        · unfold State.addLock done
          dsimp only
          split <;> exact ⟨rfl, rfl, rfl⟩
  · exact .refl s

theorem queryKnown_offLink (s : State) (args : List Byte) : s.OffLink (s.queryKnown args).1 := by
  unfold State.queryKnown
  split
  · split <;> exact .refl s
  · exact .refl s

theorem cleared_offLink (s : State) (clear : EventUnit → EventUnit) : s.OffLink (s.cleared clear).1 := ⟨rfl, rfl, rfl⟩

theorem startSave_offLink (s : State) : s.OffLink s.startSave := ⟨rfl, rfl, rfl⟩

theorem eventsClear_offLink (s : State) (args : List Byte) : s.OffLink (s.eventsClear args).1 := by
  unfold State.eventsClear
  split
  · split
    · exact cleared_offLink s _
    · exact .refl s
  · split
    · split
      · exact cleared_offLink s _
      · exact .refl s
    · exact .refl s
  · exact .refl s

theorem eventsEnable_offLink (s : State) (args : List Byte) : s.OffLink (s.eventsEnable args).1 := by
  unfold State.eventsEnable
  split
  · split
    · split
      · exact onEvents_offLink s _
      · exact .refl s
    · exact .refl s
  · exact .refl s

theorem actOnEvents_offLink (s : State) (args : List Byte) : s.OffLink (s.actOnEvents args).1 := by
  unfold State.actOnEvents
  split
  · exact .refl s
  · split
    · exact bareOperation_offLink (.refl s) args
    · exact eventsClear_offLink s args
    · exact eventsEnable_offLink s args
    · exact bareOperation_offLink (onEvents_offLink s _) args
    · exact bareOperation_offLink (onEvents_offLink s _) args
    · exact .refl s

theorem reauthenticate_offLink (s : State) (n : Slot) : s.OffLink (s.reauthenticate n).1 := by
  unfold State.reauthenticate
  split
  · exact (moves_askChallenge s n).offLink
  · exact .refl s

theorem commitSlot_offLink (s : State) (n : Slot) : s.OffLink (s.commitSlot n).1 := by
  unfold State.commitSlot
  split
  · exact (moves_askCommit s _ n).offLink
  · exact .refl s

theorem beginParking_offLink (s : State) : s.OffLink s.beginParking :=
  foldl_offLink (fun t n => moves_askCommit t .request n) allSlots (setPark_offLink s _)

theorem park_offLink (s : State) : s.OffLink s.park.1 := by
  unfold State.park
  split
  · exact .refl s
  · split
    · exact .refl s
    · split
      · exact .refl s
      · exact .refl s
      · dsimp only [queued]
        exact beginParking_offLink s

theorem resume_offLink (s : State) : s.OffLink s.resume.1 := by
  unfold State.resume
  split
  · exact .refl s
  · exact setPark_offLink s _
  · dsimp only [done]
    exact foldl_offLink moves_challengeProven allSlots (setPark_offLink s _)

theorem saveStore_offLink (s : State) : s.OffLink s.saveStore.1 := by
  unfold State.saveStore
  split
  · exact .refl s
  · exact startSave_offLink s

/-- Every request but LINK RESET leaves the link, the request queue and the run phase. -/
theorem actOn_offLink (code : Byte) (s : State) (args : List Byte) (h : code ≠ 13#8) :
    s.OffLink (s.actOn code args).1 := by
  unfold State.actOn
  split
  · exact loadTable_offLink s args
  · exact readTable_offLink s args
  · exact lockTable_offLink s args
  · exact slotArgument_offLink (fun n => .refl s) args
  · exact queryKnown_offLink s args
  · exact bare_offLink (.refl s) args
  · exact actOnEvents_offLink s args
  · exact slotArgument_offLink (reauthenticate_offLink s) args
  · exact slotArgument_offLink (commitSlot_offLink s) args
  · exact bare_offLink (park_offLink s) args
  · exact bare_offLink (resume_offLink s) args
  · exact bare_offLink (saveStore_offLink s) args
  · exact absurd (BitVec.eq_of_toNat_eq ‹code.toNat = 13›) h
  · exact .refl s

/-! ### LINK RESET -/

/-- What the emptying of the link leaves of it (R14, R15, R35). -/
theorem emptyLink_link (s : State) :
    s.emptyLink.link = { s.link with forward := s.truncationFrames, replies := [], crcErrors := 0 } := by
  simp only [State.emptyLink, State.onEvents_link, State.onDecoder_link, State.onLink_link, (truncate_offLink s).link]

theorem emptyLink_requests (s : State) : s.emptyLink.decoder.requests = [] := rfl

theorem emptyLink_run (s : State) : s.emptyLink.run = s.run := (truncate_offLink s).run

theorem emptyLink_bounded {s : State} (h : s.link.Bounded) : s.emptyLink.link.Bounded := by
  rw [emptyLink_link]
  exact { h with
    forward := (truncationFrames_length s).trans (by decide)
    replies := Nat.zero_le _
    crcErrors := Nat.zero_le _ }

/-! ### Any request -/

/-- What acting on a request may do to the Print Link: the bounds stay, neither the reply queue nor the request queue grows, and the run
phase is as before. -/
structure State.Shrinks (s t : State) : Prop where
  run : t.run = s.run
  bounded : s.link.Bounded → t.link.Bounded
  replies : t.link.replies.length ≤ s.link.replies.length
  requests : t.decoder.requests.length ≤ s.decoder.requests.length

theorem State.OffLink.shrinks {s t : State} (h : s.OffLink t) : s.Shrinks t :=
  ⟨h.run, fun b => h.link ▸ b, by rw [h.link], by rw [h.requests]⟩

theorem emptyLink_shrinks (s : State) : s.Shrinks s.emptyLink :=
  ⟨emptyLink_run s, emptyLink_bounded, by rw [emptyLink_link]; exact Nat.zero_le _, Nat.zero_le _⟩

theorem actOn_shrinks (code : Byte) (s : State) (args : List Byte) : s.Shrinks (s.actOn code args).1 := by
  by_cases h : code = 13#8
  · subst h
    change s.Shrinks (bare State.linkReset s args).1
    unfold bare
    split
    · exact emptyLink_shrinks s
    · exact (State.OffLink.refl s).shrinks
  · exact (actOn_offLink code s args h).shrinks

/-! ### The taking of requests -/

/-- The request that `serve` takes next: what `State.offers` says, as the model finds it. -/
theorem offers_iff (s : State) (r : Request) : s.offers r ↔ s.frontRequest = some r :=
  frontRequest_eq_some.symm

theorem frontRequest_eq_none {s : State} : s.frontRequest = none ↔ ∀ r, ¬s.offers r := by
  simp only [offers_iff]
  exact Option.eq_none_iff_forall_not_mem

theorem serveOne_none {s : State} (h : s.frontRequest = none) : s.serveOne = s := by
  simp only [State.serveOne, h]

theorem serveOne_some {s : State} {r : Request} (h : s.frontRequest = some r) :
    s.serveOne = (s.takeRequest r (State.actOn r.code)).finish := by
  simp only [State.serveOne, h]

/-- A request that can be taken is in the queue, so the queue is not empty. -/
theorem requests_pos {s : State} {r : Request} (h : s.frontRequest = some r) : 0 < s.decoder.requests.length := by
  obtain ⟨_, hh⟩ := frontRequest_eq_some.mp h
  exact List.length_pos_of_mem (List.mem_of_head? hh)

/-- A request taken leaves a shorter queue. -/
theorem takeRequest_requests {s : State} {r : Request} (h : s.frontRequest = some r) :
    (s.takeRequest r (State.actOn r.code)).decoder.requests.length < s.decoder.requests.length := by
  have hs := (actOn_shrinks r.code s.popRequest r.args).requests
  have hp := requests_pos h
  simp only [State.popRequest_decoder, List.length_drop] at hs
  rw [takeRequest_eq]
  exact lt_of_le_of_lt hs (by omega)

theorem serveOne_requests {s : State} {r : Request} (h : s.frontRequest = some r) :
    s.serveOne.decoder.requests.length < s.decoder.requests.length := by
  rw [serveOne_some h, finish_requests]
  exact takeRequest_requests h

theorem serveOne_run (s : State) : s.serveOne.run = s.run := by
  rcases serveOne_cases s with ⟨_, h⟩ | ⟨r, _, h⟩
  · rw [h]
  · rw [h, State.finish_run, takeRequest_eq]
    exact (actOn_shrinks r.code s.popRequest r.args).run

theorem serveOne_keepsBounds (s : State) : s.KeepsBounds s.serveOne := by
  refine ⟨serveOne_run s, fun b => ?_⟩
  rw [linkBounded_iff] at b ⊢
  rcases serveOne_cases s with ⟨_, h⟩ | ⟨r, hr, h⟩
  · rw [h]
    exact b
  · refine ⟨?_, (serveOne_requests hr).le.trans b.2⟩
    have hs := actOn_shrinks r.code s.popRequest r.args
    have hfree := (frontRequest_eq_some.mp hr).1
    rw [h, takeRequest_eq]
    refine finish_bounded { hs.bounded b.1 with replies := ?_ }
    simp only [State.placeReply, State.onLink_link, List.length_append, List.length_singleton]
    exact Nat.succ_le_of_lt (lt_of_le_of_lt hs.replies hfree)

theorem serveUpTo_none {s : State} (h : s.frontRequest = none) (k : Nat) : s.serveUpTo k = s := by
  induction k with
  | zero => rfl
  | succ k ih => rw [State.serveUpTo, serveOne_none h, ih]

/-- `serve` does nothing where no request can be taken. -/
theorem serve_none {s : State} (h : s.frontRequest = none) : s.serve = s := serveUpTo_none h _

/-- As many takings as the queue is long leave no request that can be taken. -/
theorem serveUpTo_frontRequest (k : Nat) (s : State) (hk : s.decoder.requests.length ≤ k) :
    (s.serveUpTo k).frontRequest = none := by
  induction k generalizing s with
  | zero =>
    rcases h : s.frontRequest with _ | r
    · exact h
    · exact absurd (requests_pos h) (by omega)
  | succ k ih =>
    rcases h : s.frontRequest with _ | r
    · rw [serveUpTo_none h, h]
    · exact ih _ (by have := serveOne_requests h; omega)

theorem serve_frontRequest (s : State) : s.serve.frontRequest = none := serveUpTo_frontRequest _ s (le_refl _)

/-- One taking more than the queue is long does nothing. -/
theorem serveUpTo_succ (k : Nat) (s : State) (hk : s.decoder.requests.length ≤ k) :
    s.serveUpTo (k + 1) = s.serveUpTo k := by
  induction k generalizing s with
  | zero => exact serveOne_none (serveUpTo_frontRequest 0 s hk)
  | succ k ih =>
    rcases h : s.frontRequest with _ | r
    · rw [serveUpTo_none h, serveUpTo_none h]
    · exact ih _ (by have := serveOne_requests h; omega)

theorem serveUpTo_eq_serve {k : Nat} {s : State} (hk : s.decoder.requests.length ≤ k) : s.serveUpTo k = s.serve := by
  induction k, hk using Nat.le_induction with
  | base => rfl
  | succ k hk ih => rw [serveUpTo_succ k s hk, ih]

/-- `serve` takes the front request and serves what is left. -/
theorem serve_some {s : State} {r : Request} (h : s.frontRequest = some r) :
    s.serve = (s.takeRequest r (State.actOn r.code)).finish.serve := by
  have hlt := serveOne_requests h
  obtain ⟨m, hm⟩ := Nat.exists_eq_succ_of_ne_zero (requests_pos h).ne'
  calc s.serve = s.serveOne.serveUpTo m := by rw [State.serve, hm, State.serveUpTo]
    _ = s.serveOne.serve := serveUpTo_eq_serve (by omega)
    _ = _ := by rw [serveOne_some h]

end Sys2Proof.Machine
end

section
/-! PROOFS. O7: the bounds of the link's and the decoder's queues, and that nothing waits that could be taken, hold after every
command that starts with them. A command's end makes the transmitters begin what waits, and a command that places a request or
lets a REPLY leave ends in `serve`; every other leaves the replies and the requests as they were. -/

namespace Sys2Proof.Machine

/-! ### The invariant -/

/-- The invariant of O7. -/
def State.linkSettled (s : State) : Prop := s.linkBounded ∧ s.takenUp

/-- A request waits only while the reply queue is full (R157). -/
def State.served (s : State) : Prop := s.decoder.requests ≠ [] → s.link.replies.length = 4

theorem linkSettled_iff {s : State} (hr : s.run = .running) : s.linkSettled ↔ s.linkBounded ∧ s.sends ∧ s.served := by
  simp only [State.linkSettled, State.takenUp, State.sends, State.served, hr, true_imp_iff, and_assoc]

theorem linkSettled_of_not_running {s : State} (hr : s.run ≠ .running) (h : s.linkBounded) : s.linkSettled :=
  ⟨h, fun hrun => absurd hrun hr⟩

/-- Where nothing can be taken up, the decoder takes no request. -/
theorem frontRequest_of_linkSettled {s : State} (h : s.linkSettled) (hr : s.run = .running) : s.frontRequest = none := by
  obtain ⟨_, _, hserved⟩ := (linkSettled_iff hr).mp h
  rcases hf : s.frontRequest with _ | r
  · rfl
  · obtain ⟨hfree, _⟩ := frontRequest_eq_some.mp hf
    have hfull := hserved (List.ne_nil_of_length_pos (requests_pos hf))
    omega

theorem served_of_frontRequest {s : State} (hb : s.linkBounded) (h : s.frontRequest = none) : s.served := by
  intro hne
  obtain ⟨r, rest, hq⟩ := List.exists_cons_of_ne_nil hne
  obtain ⟨hl, _⟩ := (linkBounded_iff s).mp hb
  have hfree : ¬s.link.replies.length < 4 := fun hlt => by
    simp only [State.frontRequest, hlt, if_true, hq, List.head?_cons, reduceCtorEq] at h
  have := hl.replies
  omega

/-! ### The ends of commands -/

theorem sendNext_keepsBounds (s : State) : s.KeepsBounds s.sendNext := by
  refine ⟨State.sendNext_run s, fun b => ?_⟩
  rw [linkBounded_iff] at b ⊢
  exact ⟨sendNext_bounded b.1, by simpa using b.2⟩

theorem sends_served_sendNext {s t : State} (hs : s.sends) (hserved : s.served) (h : s.Receives t) : t.sendNext.served := by
  intro hne
  rw [sendNext_replies fun hu => ?_, h.replies]
  · exact hserved (by simpa [h.requests] using hne)
  · rw [h.replies]
    exact (hs.2 (h.upTx ▸ hu)).1

/-- A command that leaves FMT OUT, the replies and the requests ends in `sendNext`. -/
theorem linkSettled_sendNext {s t : State} (hs : s.linkSettled) (hr : s.run = .running) (h : s.Receives t) :
    t.sendNext.linkSettled := by
  obtain ⟨hb, hsends, hserved⟩ := (linkSettled_iff hr).mp hs
  exact (linkSettled_iff (by simpa [h.run] using hr)).mpr
    ⟨(sendNext_keepsBounds t).bounded (h.keepsBounds.bounded hb), sendNext_sends t, sends_served_sendNext hsends hserved h⟩

theorem considerQueue_endStage1_offLink (s : State) : s.OffLink s.considerQueue.endStage1 := ⟨by simp, by simp, by simp⟩

theorem finish_keepsBounds (s : State) : s.KeepsBounds s.finish :=
  (considerQueue_endStage1_offLink s).receives.keepsBounds.trans (sendNext_keepsBounds _)

/-- A command that leaves FMT OUT, the replies and the requests ends in `finish`. -/
theorem linkSettled_finish {s t : State} (hs : s.linkSettled) (hr : s.run = .running) (h : s.Receives t) :
    t.finish.linkSettled :=
  linkSettled_sendNext hs hr (h.trans (considerQueue_endStage1_offLink t).receives)

theorem serve_sends {s : State} (h : s.sends) : s.serve.sends := by
  refine serve_keeps (fun u hu => ?_) s h
  rcases serveOne_cases u with ⟨_, e⟩ | ⟨_, _, e⟩ <;> rw [e]
  · exact hu
  · exact finish_sends _

theorem serve_keepsBounds (s : State) : s.KeepsBounds s.serve :=
  serve_keeps (p := s.KeepsBounds) (fun u hu => hu.trans (serveOne_keepsBounds u)) s ⟨rfl, id⟩

/-- A command that may place a request or free a reply place ends in `serve`. -/
theorem linkSettled_serve {s : State} (hb : s.linkBounded) (hs : s.sends) : s.serve.linkSettled := by
  have hb' := (serve_keepsBounds s).bounded hb
  obtain ⟨hd, hu⟩ := serve_sends hs
  exact ⟨hb', fun _ => ⟨hd, hu, served_of_frontRequest hb' (serve_frontRequest s)⟩⟩

/-- A command that raises no event may leave the link as it is. -/
theorem linkSettled_offLink {s t : State} (hs : s.linkSettled) (h : s.OffLink t) (he : t.events = s.events) :
    t.linkSettled := by
  obtain ⟨hb, ht⟩ := hs
  refine ⟨h.receives.keepsBounds.bounded hb, ?_⟩
  simpa only [State.takenUp, h.run, h.link, h.requests, he] using ht

/-! ### The commands -/

/-- What is answered has a property. -/
def Answers (p : State → Prop) (a : Answer) : Prop := ∀ t, a = .next t → p t

theorem answers_next {p : State → Prop} {t : State} (h : p t) : Answers p (.next t) := by
  rintro _ ⟨⟩
  exact h

/-- A command that takes place only while start-up is complete is looked at there. -/
theorem whenRunning_keeps {p : State → Prop} {f : State → State} {s : State} (hs : p s)
    (h : s.run = .running → p (f s)) : p (whenRunning f s) := by
  unfold whenRunning
  split
  · exact h ‹_›
  · exact hs

theorem linkSettled_ite {c : Prop} [Decidable c] {s t : State} (hs : s.linkSettled) (h : c → t.linkSettled) :
    (if c then t else s).linkSettled := by
  split
  · exact h ‹_›
  · exact hs

theorem assertReset_linkSettled (cause : ResetCause) {s : State} (hs : s.linkSettled) :
    (s.assertReset cause).linkSettled := by
  obtain ⟨hb, hq⟩ := (linkBounded_iff s).mp hs.1
  refine linkSettled_of_not_running (by simp [State.assertReset]) ((linkBounded_iff _).mpr ⟨?_, hq⟩)
  exact { hb with receiver := by simp [State.assertReset], headReceiver := by simp [State.assertReset], lossTimer := rfl }

theorem reportSection_offLink {α : Type} (s : State) (v : Verdict α) (i : Nat) : s.OffLink (s.reportSection v i) := by
  cases v with
  | loaded _ => exact .refl s
  | corrected _ => exact raise_offLink s _ _ _
  | lost => exact raise_offLink s _ _ _

theorem loaded_bounded (s : State) (straps : BitVec 4) : (s.loaded straps).link.Bounded :=
  ⟨Nat.zero_le _, Nat.zero_le _, Nat.zero_le _, Nat.zero_le _, by simp [State.loaded, Link.fresh],
    by simp [State.loaded, Link.fresh], rfl⟩

theorem completeStart_linkSettled (s : State) (straps : BitVec 4) : (s.completeStart straps).linkSettled := by
  unfold State.completeStart
  dsimp only
  refine linkSettled_sendNext (s := { s.loaded straps with events := EventUnit.fresh }) ?_ rfl (State.OffLink.receives ?_)
  · refine (linkSettled_iff rfl).mpr ⟨(linkBounded_iff _).mpr ⟨loaded_bounded s straps, Nat.zero_le _⟩, ?_, ?_⟩
    · exact ⟨fun _ => rfl, fun _ => ⟨rfl, rfl, rfl⟩⟩
    · exact fun h => absurd rfl h
  · refine foldl_offLink moves_startArrival allSlots ?_
    exact (((raise_offLink (s.loaded straps) _ _ _).trans (reportSection_offLink _ _ _)).trans
      (reportSection_offLink _ _ _)).trans (reportSection_offLink _ _ _)

/-- A lost link ends with no request waiting. -/
theorem loseLink_finish_linkSettled {s : State} (hs : s.linkSettled) : s.loseLink.finish.linkSettled := by
  obtain ⟨hb, _⟩ := (linkBounded_iff s).mp hs.1
  have hrequests : s.loseLink.finish.decoder.requests = [] := by rw [finish_requests]; rfl
  have hl : s.loseLink.link.Bounded :=
    { emptyLink_bounded hb with receiver := by simp [State.loseLink], lossTimer := rfl }
  obtain ⟨hd, hu⟩ := finish_sends s.loseLink
  refine ⟨(linkBounded_iff _).mpr ⟨finish_bounded hl, ?_⟩, fun _ => ⟨hd, hu, fun hne => absurd hrequests hne⟩⟩
  rw [hrequests]
  exact Nat.zero_le _

theorem downSendEnd_linkSettled {s : State} (hs : s.linkSettled) (hr : s.run = .running) :
    (s.onLink fun l => ({ l with downTx := none } : Link).beginDown).linkSettled := by
  obtain ⟨hb, ⟨_, hu⟩, hserved⟩ := (linkSettled_iff hr).mp hs
  obtain ⟨hl, hq⟩ := (linkBounded_iff s).mp hb
  have hl' : ({ s.link with downTx := none } : Link).Bounded := { hl with }
  refine (linkSettled_iff (s := s.onLink _) hr).mpr ⟨(linkBounded_iff _).mpr ⟨hl'.beginDown, hq⟩, ⟨Link.beginDown_idle _, ?_⟩, ?_⟩
  · simpa using hu
  · simpa [State.served] using hserved

theorem upSendEnd_linkSettled {s : State} (hs : s.linkSettled) (hr : s.run = .running) :
    (s.onLink fun l => { l with upTx := none }).beginUp.serve.linkSettled := by
  obtain ⟨hb, ⟨hd, _⟩, _⟩ := (linkSettled_iff hr).mp hs
  obtain ⟨hl, hq⟩ := (linkBounded_iff s).mp hb
  obtain ⟨hdown, hforward⟩ := beginUp_down (s.onLink fun l => { l with upTx := none })
  refine linkSettled_serve ((linkBounded_iff _).mpr ⟨beginUp_bounded { hl with }, ?_⟩) ⟨?_, beginUp_idle _⟩
  · simpa using hq
  · rw [hdown, hforward]
    exact hd

/-- A request's row finds no request to take. -/
theorem take_linkSettled {s : State} (hs : s.linkSettled) (hr : s.run = .running) (front : Option Request)
    (act : State → List Byte → State × Reply) (hf : s.frontRequest = none → front = none) :
    (s.take front act).linkSettled := by
  rw [hf (frontRequest_of_linkSettled hs hr)]
  exact hs

theorem frontOf_none (s : State) (code : Byte) (h : s.frontRequest = none) : s.frontOf code = none := by
  simp only [State.frontOf, h, Option.filter_none]

theorem frontEvents_none (s : State) (operation : Byte) (h : s.frontRequest = none) : s.frontEvents operation = none := by
  simp only [State.frontEvents, frontOf_none s _ h, Option.filter_none]

theorem frontUnknown_none (s : State) (h : s.frontRequest = none) : s.frontUnknown = none := by
  simp only [State.frontUnknown, h, Option.filter_none]

theorem onBus_offLink (s : State) (f : Bus → Bus) : s.OffLink (s.onBus f) := ⟨rfl, rfl, rfl⟩

theorem endTransaction_offLink (s : State) (f : Flight) (outcome : BusOutcome) : s.OffLink (s.endTransaction f outcome) :=
  (onBus_offLink s _).trans (moves_deliver _ f outcome).offLink

theorem enterFault_offLink (s : State) : s.OffLink s.enterFault := (onBus_offLink s _).trans (raise_offLink _ _ _ _)

theorem stick_offLink (s : State) : s.OffLink s.stick := by
  unfold State.stick
  split
  · exact (enterFault_offLink s).trans (endTransaction_offLink _ _ _)
  · exact enterFault_offLink s

theorem parkOnSave_offLink (s : State) : s.OffLink s.parkOnSave := by
  unfold State.parkOnSave
  split
  · exact (setPark_offLink s _).trans (raise_offLink _ _ _ _)
  · exact (startSave_offLink s).trans (setPark_offLink _ _)
  · exact .refl s

theorem endStage1_offLink (s : State) : s.OffLink s.endStage1 := ⟨by simp, by simp, by simp⟩

theorem lineAbsent_events (s : State) (n : Slot) : (s.lineAbsent n).events = s.events := by
  unfold State.lineAbsent
  split <;> rfl

theorem onStore_offLink (s : State) (f : Store → Store) : s.OffLink (s.onStore f) := ⟨rfl, rfl, rfl⟩

theorem goStale_offLink (s : State) (h : Head) : s.OffLink (s.goStale h) := ⟨rfl, rfl, rfl⟩

theorem exec_linkSettled (c : Instr) {s : State} (hs : s.linkSettled) : Answers State.linkSettled (exec c s) := by
  have running {f : State → State} (h : s.run = .running → (f s).linkSettled) :
      Answers State.linkSettled (.next (whenRunning f s)) := answers_next (whenRunning_keeps hs h)
  cases c with
  | reset cause => exact answers_next (assertReset_linkSettled cause hs)
  | resetRelease => exact answers_next (linkSettled_ite hs fun _ => linkSettled_of_not_running (by simp) hs.1)
  | startUp straps => exact answers_next (linkSettled_ite hs fun _ => completeStart_linkSettled s straps)
  | linkSymbol x =>
    refine running fun _ => linkSettled_serve (State.KeepsBounds.bounded ?_ hs.1) (finish_sends _)
    exact (((symbolArrives_receives s).keepsBounds.trans (receiveSymbol_keepsBounds _ x))).trans (finish_keepsBounds _)
  | linkLoss => exact running fun _ => linkSettled_ite hs fun _ => loseLink_finish_linkSettled hs
  | swathOpen f => exact running fun hr => linkSettled_finish hs hr (receiveFmt_receives s _ f (by simp))
  | fire f => exact running fun hr => linkSettled_sendNext hs hr (receiveFmt_receives s _ f (by simp))
  | swathClose f => exact running fun hr => linkSettled_finish hs hr (receiveFmt_receives s _ f (by simp))
  | requestFrame f =>
    refine running fun _ => linkSettled_serve (State.KeepsBounds.bounded ?_ hs.1) (sendNext_sends _)
    exact (receiveFmt_keepsBounds s _ f).trans (sendNext_keepsBounds _)
  | headStatus f => exact running fun hr => linkSettled_sendNext hs hr (receiveHead_receives s _ f)
  | passThroughFrame k f => exact running fun hr => linkSettled_sendNext hs hr (receiveHead_receives s _ f)
  | discardedFrame d =>
    exact running fun hr => linkSettled_ite hs fun _ =>
      linkSettled_sendNext hs hr (receiveDiscarded_receives s d)
  | downstreamSendEnd => exact running fun hr => linkSettled_ite hs fun _ => downSendEnd_linkSettled hs hr
  | upstreamSendEnd => exact running fun hr => linkSettled_ite hs fun _ => upSendEnd_linkSettled hs hr
  | tempStale h =>
    exact running fun hr => linkSettled_ite hs fun _ =>
      linkSettled_sendNext hs hr (goStale_offLink s h).receives
  | lineGoesPresent n =>
    refine answers_next ?_
    split
    · exact hs
    · exact whenRunning_keeps hs fun hr =>
        linkSettled_sendNext (s := s.setLine n true) hs hr (moves_linePresent (s.setLine n true) n).offLink.receives
  | lineGoesAbsent n => exact answers_next (linkSettled_ite hs fun _ => whenRunning_keeps hs fun _ =>
      linkSettled_offLink (s := s.setLine n false) hs (moves_lineAbsent (s.setLine n false) n).offLink (lineAbsent_events _ n))
  | seating n =>
    refine running fun hr => ?_
    split
    · exact linkSettled_finish hs hr (moves_seat s n).offLink.receives
    · exact hs
  | removal n =>
    refine running fun hr => ?_
    split
    · exact linkSettled_finish hs hr (moves_remove s n).offLink.receives
    · exact hs
  | transactionBegin =>
    exact running fun hr => linkSettled_ite hs fun _ =>
      linkSettled_finish hs hr (State.OffLink.refl s).receives
  | commandSent =>
    refine running fun _ => ?_
    split
    · exact linkSettled_ite hs fun _ => linkSettled_offLink hs (onBus_offLink s _) rfl
    · exact hs
  | supplyReply bytes =>
    refine running fun hr => ?_
    split
    · exact linkSettled_ite hs fun _ => linkSettled_finish hs hr (endTransaction_offLink s _ _).receives
    · exact hs
  | responseTimeout =>
    refine running fun hr => ?_
    split
    · exact linkSettled_finish hs hr (endTransaction_offLink s _ _).receives
    · exact hs
  | busStuck =>
    exact running fun hr => linkSettled_ite hs fun _ =>
      linkSettled_sendNext hs hr ((stick_offLink s).trans (endStage1_offLink _)).receives
  | faultEnd =>
    exact running fun hr => linkSettled_ite hs fun _ =>
      linkSettled_finish hs hr (onBus_offLink s _).receives
  | busLineReleased => exact answers_next (linkSettled_ite hs fun _ => whenRunning_keeps hs fun _ =>
      linkSettled_offLink (s := { s with busLow := false }) hs (onBus_offLink _ _) rfl)
  | busLinePulledLow =>
    refine answers_next ?_
    split
    · exact hs
    · exact whenRunning_keeps hs fun _ => linkSettled_offLink (s := { s with busLow := true }) hs (onBus_offLink _ _) rfl
  | holdoffExpiry n =>
    exact running fun hr => linkSettled_ite hs fun _ =>
      linkSettled_finish hs hr (moves_endHoldoff s n).offLink.receives
  | noticeHoldoffExpiry =>
    exact running fun hr => linkSettled_ite hs fun _ =>
      linkSettled_sendNext hs hr (onEvents_offLink s _).receives
  | parkingCopies => exact running fun _ => linkSettled_offLink hs (endStage1_offLink s) (by simp)
  | sectionWritten => exact running fun _ => linkSettled_offLink hs (onStore_offLink s _) rfl
  | saveComplete =>
    refine running fun hr => ?_
    split
    · exact linkSettled_ite hs fun _ =>
        linkSettled_sendNext hs hr ((onStore_offLink s _).trans (parkOnSave_offLink _)).receives
    · exact hs
  | unknownRequest =>
    refine running fun hr => ?_
    rw [frontUnknown_none s (frontRequest_of_linkSettled hs hr)]
    exact hs
  | eventsRead | eventsClear | eventsEnable | noticesOn | noticesOff =>
    exact running fun hr => take_linkSettled hs hr _ _ (frontEvents_none s _)
  | loadTable | readTable | lockTable | querySlot | queryKnown | queryStatus | reauthenticateSlot | commitSlot | park | resume
  | saveStore | linkReset => exact running fun hr => take_linkSettled hs hr _ _ (frontOf_none s _)

/-- Settles O7: every command keeps the invariant, and one step runs one command or idles. -/
theorem linkQueuesStayBounded : Obligations.LinkQueuesStayBounded := by
  intro s t hs h
  unfold step at h
  split at h
  · rename_i c rest _
    exact exec_linkSettled c (s := { s with pending := rest }) hs t h
  · exact answers_next (p := State.linkSettled) hs t h

end Sys2Proof.Machine
end

section
/-! PROOFS. O29: what the end of a command begins, takes and leaves (R9, R12, R81, R131, R157). -/

namespace Sys2Proof.Machine

/-! ### The transmitters -/

/-- `sendNext` on HEAD OUT's side is HEAD OUT's beginning. -/
theorem sendNext_down (s : State) :
    s.sendNext.link.downTx = s.link.beginDown.downTx ∧ s.sendNext.link.forward = s.link.beginDown.forward :=
  beginUp_down (s.onLink Link.beginDown)

/-- Where FMT OUT is sending, `sendNext` is HEAD OUT's beginning. -/
theorem sendNext_sending {s : State} (h : s.link.upTx.isSome = true) : s.sendNext = s.onLink Link.beginDown := by
  obtain ⟨f, hf⟩ := Option.isSome_iff_exists.mp h
  exact beginUp_sending (s := s.onLink Link.beginDown) (by simpa using hf)

theorem sendNext_reply {s : State} {f : Frame} {rest : List Frame} (h : s.link.upTx = none) (hr : s.link.replies = f :: rest) :
    s.sendNext = s.onLink fun l => { l.beginDown with upTx := some f, replies := rest } :=
  beginUp_reply (s := s.onLink Link.beginDown) (by simpa using h) (by simpa using hr)

theorem sendNext_pass {s : State} {f : Frame} {rest : List Frame} (h : s.link.upTx = none) (hr : s.link.replies = [])
    (hp : s.link.passThrough = f :: rest) :
    s.sendNext = s.onLink fun l => { l.beginDown with upTx := some f, passThrough := rest } :=
  beginUp_pass (s := s.onLink Link.beginDown) (by simpa using h) (by simpa using hr) (by simpa using hp)

/-- With no frame waiting, FMT OUT begins the NOTICE held ready, from the controller's address, or sends FILL (R6, R12). -/
theorem sendNext_notice {s : State} (h : s.link.upTx = none) (hr : s.link.replies = []) (hp : s.link.passThrough = []) :
    s.sendNext =
      { s with
        link :=
          { s.link.beginDown with
            upTx :=
              if s.events.noticeReady then some (makeFrame .notice s.link.address s.events.noticePayload) else none }
        events := { s.events with noticeReady := false } } := by
  have ha : s.link.beginDown.address = s.link.address := by simp only [Link.address, Link.beginDown_strap]
  rw [← ha]
  exact beginUp_notice (s := s.onLink Link.beginDown) (by simpa using h) (by simpa using hr) (by simpa using hp)

/-- `sendNext` changes the transmitters, their queues and the NOTICE held ready, and nothing else. -/
theorem sendNext_frame (s : State) :
    ∃ (l : Link) (ready : Bool), s.sendNext = { s with link := l, events := { s.events with noticeReady := ready } }
      ∧ l.up = s.link.up ∧ l.lossTimer = s.link.lossTimer ∧ l.receiver = s.link.receiver
      ∧ l.headReceiver = s.link.headReceiver ∧ l.strap = s.link.strap ∧ l.crcErrors = s.link.crcErrors := by
  obtain ⟨d, q, hd, _⟩ := s.link.beginDown_eq
  rcases hu : s.link.upTx with _ | f
  · rcases hr : s.link.replies with _ | ⟨f, rest⟩
    · rcases hp : s.link.passThrough with _ | ⟨f, rest⟩
      · rw [sendNext_notice hu hr hp, hd]
        exact ⟨_, _, rfl, rfl, rfl, rfl, rfl, rfl, rfl⟩
      · rw [sendNext_pass hu hr hp]
        simp only [State.onLink, hd]
        exact ⟨_, s.events.noticeReady, rfl, rfl, rfl, rfl, rfl, rfl, rfl⟩
    · rw [sendNext_reply hu hr]
      simp only [State.onLink, hd]
      exact ⟨_, s.events.noticeReady, rfl, rfl, rfl, rfl, rfl, rfl, rfl⟩
  · rw [sendNext_sending (by rw [hu]; rfl)]
    simp only [State.onLink, hd]
    exact ⟨_, s.events.noticeReady, rfl, rfl, rfl, rfl, rfl, rfl, rfl⟩

/-! ### The transaction queue -/

theorem isFree_iff (b : Bus) : b.isFree = true ↔ b.status = .idle ∧ b.flight = none := by
  simp [Bus.isFree]

theorem nextRequest_mem {q : List BusRequest} {r : BusRequest} (h : nextRequest q = some r) : r ∈ q := by
  unfold nextRequest at h
  split at h
  · exact Option.some.inj h ▸ List.mem_of_find?_eq_some ‹_›
  · split at h
    · exact Option.some.inj h ▸ List.mem_of_find?_eq_some ‹_›
    · exact List.mem_of_head? h

theorem nextRequest_eq_none {q : List BusRequest} (h : nextRequest q = none) : q = [] := by
  unfold nextRequest at h
  split at h
  · cases h
  · split at h
    · cases h
    · exact List.head?_eq_none_iff.mp h

/-- Nothing is left to take: the line is not free, or no request waits. -/
def Bus.settled (b : Bus) : Prop := b.status = .idle → b.flight = none → b.queue = []

theorem takeOne_of_settled {s : State} (h : s.bus.settled) : s.takeOne = s := by
  rcases takeOne_cases s with e | ⟨r, hfree, hr, _⟩
  · exact e
  · obtain ⟨hi, hf⟩ := (isFree_iff _).mp hfree
    have hmem := nextRequest_mem hr
    rw [h hi hf] at hmem
    cases hmem

theorem takeRequests_of_settled {s : State} (h : s.bus.settled) (k : Nat) : s.takeRequests k = s := by
  induction k with
  | zero => rfl
  | succ k ih => rw [State.takeRequests, takeOne_of_settled h, ih]

theorem considerQueue_of_settled {s : State} (h : s.bus.settled) : s.considerQueue = s := takeRequests_of_settled h _

/-- A request taken leaves a shorter queue. -/
theorem takeOne_settled_or_shorter (s : State) :
    s.bus.settled ∨ s.takeOne.bus.queue.length < s.bus.queue.length := by
  by_cases hfree : s.bus.isFree = true
  · rcases hr : nextRequest s.bus.queue with _ | r
    · exact .inl fun _ _ => nextRequest_eq_none hr
    · refine .inr ?_
      have hmem := nextRequest_mem hr
      obtain ⟨b, x, c, he, _, hq⟩ := beginTransaction_eq (s.onBus fun b => { b with queue := b.queue.erase r }) r
      have hpos := List.length_pos_of_mem hmem
      simp only [State.takeOne, hfree, if_true, hr, he, hq, State.onBus_bus, List.length_erase_of_mem hmem]
      omega
  · exact .inl fun hi hf => absurd ((isFree_iff _).mpr ⟨hi, hf⟩) hfree

theorem takeRequests_settled (k : Nat) (s : State) (hk : s.bus.queue.length ≤ k) : (s.takeRequests k).bus.settled := by
  induction k generalizing s with
  | zero => exact fun _ _ => List.length_eq_zero_iff.mp (Nat.le_zero.mp hk)
  | succ k ih =>
    rcases takeOne_settled_or_shorter s with h | h
    · rw [takeRequests_of_settled h]
      exact h
    · exact ih _ (by omega)

/-- The consideration of the queue leaves nothing to take (R81, R82). -/
theorem considerQueue_settled (s : State) : s.considerQueue.bus.settled := takeRequests_settled _ s (le_refl _)

/-! ### Stage 1 of parking -/

theorem isSettled_iff (p : CommitPhase) : p.isSettled = true ↔ p = .idle ∨ ∃ d pre, p = .inDoubt d pre := by
  cases p <;> simp [CommitPhase.isSettled]

theorem allSettled_iff (s : State) :
    s.commits.allSettled = true ↔ ∀ n : Slot, (s.commit n).phase = .idle ∨ ∃ d pre, (s.commit n).phase = .inDoubt d pre := by
  simp only [← isSettled_iff, State.commit]
  rw [CommitUnit.allSettled, Vector.all_eq_true]
  exact ⟨fun h n => h n n.isLt, fun h i hi => h ⟨i, hi⟩⟩

theorem endStage1_of_not {s : State} (h : ¬(s.decoder.park = .parking .commits ∧ s.commits.allSettled = true)) :
    s.endStage1 = s := if_neg h

/-- A command's end is `sendNext` where the bus has nothing to take and stage 1 of parking does not end. -/
theorem finish_eq_sendNext {s : State} (hb : s.bus.settled)
    (hp : ¬(s.decoder.park = .parking .commits ∧ s.commits.allSettled = true)) : s.finish = s.sendNext := by
  rw [State.finish, considerQueue_of_settled hb, endStage1_of_not hp]

/-! ### The rows of the requests -/

theorem whenRunning_running {s : State} (h : s.run = .running) (f : State → State) : whenRunning f s = f s := if_pos h

/-- A row whose act is that of the front request's code takes the front request as `serve` does. -/
theorem take_eq_serve {s : State} {r : Request} {front : Option Request} {act : State → List Byte → State × Reply}
    (hf : s.frontRequest = some r) (hfront : front = some r) (hact : ∀ t, act t r.args = t.actOn r.code r.args) :
    s.take front act = s.serve := by
  rw [serve_some hf, hfront]
  simp only [State.take, takeRequest_eq, hact]

theorem frontOf_some {s : State} {r : Request} (hf : s.frontRequest = some r) : s.frontOf r.code = some r := by
  simp [State.frontOf, hf]

theorem frontEvents_some {s : State} {r : Request} {operation : Byte} (hf : s.frontRequest = some r) (hc : r.code = 7#8)
    (ho : r.args.head? = some operation) : s.frontEvents operation = some r := by
  simp [State.frontEvents, ← hc, frontOf_some hf, ho]

theorem frontUnknown_some {s : State} {r : Request} (hf : s.frontRequest = some r) (hu : r.isUnknown = true) :
    s.frontUnknown = some r := by
  simp [State.frontUnknown, hf, hu]

/-- The row UNKNOWN_REQUEST refuses what no rule acts on, as `serve` does. -/
theorem exec_unknown {s : State} {r : Request} (hr : s.run = .running) (hf : s.frontRequest = some r)
    (hu : r.isUnknown = true) (hact : ∀ t, t.actOn r.code r.args = refuse t r.unknownStatus) :
    exec .unknownRequest s = .next s.serve := by
  have h : exec .unknownRequest s = .next (s.take (some r) fun s _ => refuse s r.unknownStatus) := by
    simp only [exec, execUnknownRequest, whenRunning_running hr, frontUnknown_some hf hu]
  rw [h, take_eq_serve hf rfl fun t => (hact t).symm]

/-- A row that takes the front request of a code does what `serve` does, where that is the front request's code. -/
theorem row_eq_serve {s : State} {r : Request} {c : Byte} {act : State → List Byte → State × Reply} (hr : s.run = .running)
    (hf : s.frontRequest = some r) (hc : r.code.toNat = c.toNat) (hact : ∀ t args, act t args = t.actOn c args) :
    Host.Outcome.next (whenRunning (fun s => s.take (s.frontOf c) act) s) = (.next s.serve : Answer) := by
  obtain rfl : r.code = c := BitVec.eq_of_toNat_eq hc
  rw [whenRunning_running hr, take_eq_serve hf (frontOf_some hf) fun t => hact t r.args]

/-- A row that takes the front EVENTS request of an operation does what `serve` does, where that is the operation of the front
request. -/
theorem events_row_eq_serve {s : State} {r : Request} {o operation : Byte} {act : State → List Byte → State × Reply}
    (hr : s.run = .running) (hf : s.frontRequest = some r) (hc : r.code = 7#8) (ho : r.args.head? = some o)
    (hop : o.toNat = operation.toNat) (hact : ∀ t, act t r.args = t.actOnEvents r.args) :
    Host.Outcome.next (whenRunning (fun s => s.take (s.frontEvents operation) act) s) = (.next s.serve : Answer) := by
  obtain rfl : o = operation := BitVec.eq_of_toNat_eq hop
  rw [whenRunning_running hr, take_eq_serve hf (frontEvents_some hf hc ho) fun t => (hact t).trans (by rw [hc]; rfl)]

theorem actOnEvents_none {t : State} {args : List Byte} (h : args.head? = none) : t.actOnEvents args = refuse t .range := by
  simp only [State.actOnEvents, h]

theorem actOnEvents_above {t : State} {args : List Byte} {o : Byte} (h : args.head? = some o) (ho : 4 < o.toNat) :
    t.actOnEvents args = refuse t .range := by
  simp only [State.actOnEvents, h]
  split <;> try omega
  rfl

/-- A code of 0 or above 13 is answered UNKNOWN (R155, R157). -/
theorem actOn_unknown {t : State} {code : Byte} {args : List Byte} (h : code.toNat = 0 ∨ 13 < code.toNat) :
    t.actOn code args = refuse t .unknown := by
  unfold State.actOn
  split <;> try omega
  rfl

/-- The row of any request that can be taken does what `serve` does (R157; log entry 5). -/
theorem exec_row {s : State} {r : Request} (hr : s.run = .running) (hf : s.frontRequest = some r) :
    exec r.row s = .next s.serve := by
  unfold Request.row
  split
  case h_7 hseven =>
    have hc : r.code = 7#8 := BitVec.eq_of_toNat_eq hseven
    have hstatus : r.unknownStatus = .range := if_pos hc
    have hact (t : State) : t.actOn r.code r.args = t.actOnEvents r.args := by rw [hc]; rfl
    split
    · rename_i ho
      exact exec_unknown hr hf (by simp [Request.isUnknown, hc, List.head?_eq_none_iff.mp ho]) fun t => by
        rw [hact, actOnEvents_none ho, hstatus]
    · rename_i o ho
      split
      · exact events_row_eq_serve hr hf hc ho ‹_› fun t => by simp only [State.actOnEvents, ho, ‹o.toNat = 0›]
      · exact events_row_eq_serve hr hf hc ho ‹_› fun t => by simp only [State.actOnEvents, ho, ‹o.toNat = 1›]
      · exact events_row_eq_serve hr hf hc ho ‹_› fun t => by simp only [State.actOnEvents, ho, ‹o.toNat = 2›]
      · exact events_row_eq_serve hr hf hc ho ‹_› fun t => by simp only [State.actOnEvents, ho, ‹o.toNat = 3›]
      · exact events_row_eq_serve hr hf hc ho ‹_› fun t => by simp only [State.actOnEvents, ho, ‹o.toNat = 4›]
      · rename_i h0 h1 h2 h3 h4
        have hbyte : byteAt r.args 0 = o := by simp [byteAt, ← List.head?_eq_getElem?, ho]
        simp only [imp_false] at h0 h1 h2 h3 h4
        have habove : 4 < o.toNat := by omega
        exact exec_unknown hr hf (by simp [Request.isUnknown, hc, hbyte, habove]) fun t => by
          rw [hact, actOnEvents_above ho habove, hstatus]
  case h_14 =>
    simp only [imp_false] at *
    have hcode : r.code.toNat = 0 ∨ 13 < r.code.toNat := by omega
    have hne : r.code ≠ 7#8 := fun hc => by simp [hc] at hcode
    refine exec_unknown hr hf ?_ fun t => by rw [actOn_unknown hcode, Request.unknownStatus, if_neg hne]
    rcases hcode with h0 | h13
    · simp [Request.isUnknown, BitVec.eq_of_toNat_eq (y := 0#8) h0]
    · simp [Request.isUnknown, h13]
  all_goals exact row_eq_serve hr hf ‹_› fun _ _ => rfl

/-- Settles O29, from what the transmitters' beginnings, the consideration of the queue and the serving of requests each do. -/
theorem commandEndsTakeUpWhatWaits : Obligations.CommandEndsTakeUpWhatWaits := by
  refine ⟨fun s => ⟨?_, (sendNext_sends s).1, ?_, ?_, ?_, ?_, sendNext_frame s⟩, fun s hb hp => finish_eq_sendNext hb hp,
    fun s => ⟨rfl, ?_, ?_, isFree_iff _, allSettled_iff s⟩, fun s => ⟨?_, considerQueue_settled s⟩, fun s hr => ⟨?_, ?_, ?_⟩⟩
  · rw [(sendNext_down s).1, (sendNext_down s).2]
    exact s.link.beginDown_frames
  · intro h
    rw [sendNext_sending h]
    simp
  · intro h hne
    obtain ⟨f, rest, hq⟩ := List.exists_cons_of_ne_nil hne
    rw [sendNext_reply h hq]
    simp [hq]
  · intro h hr hne
    obtain ⟨f, rest, hq⟩ := List.exists_cons_of_ne_nil hne
    rw [sendNext_pass h hr hq]
    simp [hq, hr]
  · intro h hr hp
    rw [sendNext_notice h hr hp]
    exact ⟨rfl, by simp [hr], by simp [hp], rfl⟩
  · intro hr
    exact congrArg Host.Outcome.next (whenRunning_running hr _)
  · intro hr hfree hq
    refine congrArg Host.Outcome.next ((whenRunning_running hr _).trans (if_pos ⟨hfree, hq⟩))
  · obtain ⟨b, w, c, h, _⟩ := takeRequests_eq s.bus.queue.length s
    exact ⟨b, w, c, h⟩
  · exact fun r ho => exec_row hr ((offers_iff s r).mp ho)
  · exact fun h => serve_none (frontRequest_eq_none.mpr h)
  · exact frontRequest_eq_none.mp (serve_frontRequest s)

end Sys2Proof.Machine
end

section
/-! PROOFS. O5: START_UP (R179, R181, R182). What a section is judged to be; the events of start-up, which the notice gate lets
through as one NOTICE; the arrivals of the enabled slots whose line reads present; and the state they leave. -/

namespace Sys2Proof.Machine

/-! ### The judgement of a section -/

/-- A section is mended by the first bit of its contents that does it, else by one of its CRC's, or not at all (R181). -/
theorem mended_cases (v : Section) :
    (∃ i < 8 * v.bytes.length, crc16 (flipBit v.bytes i) = v.crc ∧ v.mended = some (flipBit v.bytes i))
      ∨ ((∀ i < 8 * v.bytes.length, crc16 (flipBit v.bytes i) ≠ v.crc)
          ∧ ((∃ i < 16, crc16 v.bytes = v.crc ^^^ (1#16 <<< i)) ∧ v.mended = some v.bytes
            ∨ (∀ i < 16, crc16 v.bytes ≠ v.crc ^^^ (1#16 <<< i)) ∧ v.mended = none)) := by
  unfold Section.mended
  split
  · rename_i i hi
    exact .inl ⟨i, List.mem_range.mp (List.mem_of_find?_eq_some hi), by simpa using List.find?_some hi, rfl⟩
  · rename_i hnone
    refine .inr ⟨fun i hi => by simpa using List.find?_eq_none.mp hnone i (List.mem_range.mpr hi), ?_⟩
    split
    · rename_i h
      obtain ⟨i, hi, he⟩ := List.any_eq_true.mp h
      exact .inl ⟨⟨i, List.mem_range.mp hi, beq_iff_eq.mp he⟩, rfl⟩
    · rename_i h
      exact .inr ⟨fun i hi he => h (List.any_eq_true.mpr ⟨i, List.mem_range.mpr hi, beq_iff_eq.mpr he⟩), rfl⟩

theorem matches_iff (v : Section) : v.matches = true ↔ crc16 v.bytes = v.crc := beq_iff_eq

/-- What a section that loads, is corrected or is lost is like. -/
theorem judge_meaning {α : Type} (parse : List Byte → Option α) (v : Section) :
    match v.judge parse with
    | .loaded c => crc16 v.bytes = v.crc ∧ parse v.bytes = some c
    | .corrected c =>
      crc16 v.bytes ≠ v.crc
        ∧ ((∃ i < 8 * v.bytes.length, crc16 (flipBit v.bytes i) = v.crc ∧ parse (flipBit v.bytes i) = some c)
          ∨ (parse v.bytes = some c ∧ ∃ i < 16, crc16 v.bytes = v.crc ^^^ (1#16 <<< i)))
    | .lost =>
      (crc16 v.bytes = v.crc → parse v.bytes = none)
        ∧ ((∃ i < 8 * v.bytes.length, crc16 (flipBit v.bytes i) = v.crc) → crc16 v.bytes ≠ v.crc →
            ∃ i < 8 * v.bytes.length, crc16 (flipBit v.bytes i) = v.crc ∧ parse (flipBit v.bytes i) = none)
        ∧ ((∃ i < 16, crc16 v.bytes = v.crc ^^^ (1#16 <<< i)) → crc16 v.bytes ≠ v.crc →
            (∀ i < 8 * v.bytes.length, crc16 (flipBit v.bytes i) ≠ v.crc) → parse v.bytes = none) := by
  by_cases hm : crc16 v.bytes = v.crc
  · rw [Section.judge, if_pos ((matches_iff v).mpr hm)]
    rcases hp : parse v.bytes with _ | c
    · exact ⟨fun _ => rfl, fun _ hne => absurd hm hne, fun _ hne => absurd hm hne⟩
    · exact ⟨hm, rfl⟩
  · rw [Section.judge, if_neg (mt (matches_iff v).mp hm)]
    rcases mended_cases v with ⟨i, hi, hcrc, he⟩ | ⟨hno, ⟨hbit, he⟩ | ⟨hnobit, he⟩⟩
    · rw [he, Option.bind_some]
      rcases hp : parse (flipBit v.bytes i) with _ | c
      · exact ⟨fun h => absurd h hm, fun _ _ => ⟨i, hi, hcrc, hp⟩, fun _ _ hno => absurd hcrc (hno i hi)⟩
      · exact ⟨hm, .inl ⟨i, hi, hcrc, hp⟩⟩
    · rw [he, Option.bind_some]
      rcases hp : parse v.bytes with _ | c
      · exact ⟨fun _ => rfl, fun ⟨i, hi, hcrc⟩ => absurd hcrc (hno i hi), fun _ _ _ => rfl⟩
      · exact ⟨hm, .inr ⟨rfl, hbit⟩⟩
    · rw [he, Option.bind_none]
      exact ⟨fun h => absurd h hm, fun ⟨i, hi, hcrc⟩ => absurd hcrc (hno i hi),
        fun ⟨i, hi, hbit⟩ => absurd hbit (hnobit i hi)⟩

/-! ### Events behind a closed gate -/

/-- An event with no detail is raised. -/
def raiseName (u : EventUnit) (p : EventKind × Nat) : EventUnit := u.raise p.1 p.2 0#32

theorem holds_iff (u : EventUnit) (k : EventKind) (i : Nat) : u.holds k i = true ↔ (k, i) ∈ u.pending.map Event.name := by
  simp [EventUnit.holds]

theorem announce_closed {u : EventUnit} (h : u.gateOpen = false) : u.announce = u := by
  simp [EventUnit.announce, h]

/-- An event that is enabled and not pending is added at the back; behind a closed gate nothing more happens (R169, R172). -/
theorem raise_closed {u : EventUnit} {k : EventKind} {i : Nat} (d : Word) (hg : u.gateOpen = false) (hk : k ∈ u.enabled)
    (hn : (k, i) ∉ u.pending.map Event.name) : u.raise k i d = { u with pending := u.pending ++ [⟨k, i, d⟩] } := by
  rw [EventUnit.raise, if_pos hk, if_neg (mt (holds_iff u k i).mp hn)]
  exact announce_closed (u := { u with pending := _ }) hg

/-- Events of different names that are not pending are all added, in their order. -/
theorem raiseNames_closed (names : List (EventKind × Nat)) {u : EventUnit} (hg : u.gateOpen = false)
    (hk : ∀ k, k ∈ u.enabled) (hn : (u.pending.map Event.name ++ names).Nodup) :
    names.foldl raiseName u = { u with pending := u.pending ++ names.map fun p => ⟨p.1, p.2, 0#32⟩ } := by
  induction names generalizing u with
  | nil => simp
  | cons p names ih =>
    have hp : p ∉ u.pending.map Event.name := fun h =>
      (List.nodup_append.mp hn).2.2 p h p List.mem_cons_self rfl
    have hadd : raiseName u p = { u with pending := u.pending ++ [⟨p.1, p.2, 0#32⟩] } :=
      raise_closed 0#32 hg (hk p.1) hp
    rw [List.foldl_cons, hadd, ih (u := { u with pending := u.pending ++ [⟨p.1, p.2, 0#32⟩] }) hg hk (by simpa [Event.name] using hn)]
    simp

theorem mem_allEventKinds (k : EventKind) : k ∈ allEventKinds := by
  cases k <;> decide

/-- RESTART, raised first, closes the gate and makes a NOTICE ready (R172, R182). -/
theorem raise_restart_fresh (d : Word) :
    EventUnit.fresh.raise .restart 0 d =
      { EventUnit.fresh with pending := [⟨.restart, 0, d⟩], gateOpen := false, noticeReady := true } := rfl

/-- The names of the events that a section's verdict raises (R181). -/
def Verdict.eventNames {α : Type} (v : Verdict α) (i : Nat) : List (EventKind × Nat) :=
  match v with
  | .loaded _ => []
  | .corrected _ => [(.storeCorrected, i)]
  | .lost => [(.storeSectionLost, i)]

theorem reportSection_eq {α : Type} (s : State) (v : Verdict α) (i : Nat) :
    s.reportSection v i = s.onEvents fun u => (v.eventNames i).foldl raiseName u := by
  cases v <;> rfl

theorem Verdict.mem_eventNames {α : Type} {v : Verdict α} {i : Nat} {p : EventKind × Nat} (h : p ∈ v.eventNames i) :
    p.2 = i ∧ (p.1 = .storeCorrected ∨ p.1 = .storeSectionLost) := by
  cases v <;> simp [Verdict.eventNames] at h <;> simp [h]

theorem Verdict.eventNames_nodup {α : Type} (v : Verdict α) (i : Nat) : (v.eventNames i).Nodup := by
  cases v <;> simp [Verdict.eventNames]

/-- No name of a start-up's events comes twice. -/
theorem start_names_nodup {α β γ : Type} (a : Verdict α) (b : Verdict β) (c : Verdict γ) {ns : List Slot} (hns : ns.Nodup) :
    ([((.restart, 0) : EventKind × Nat)] ++ (a.eventNames 0 ++ b.eventNames 1 ++ c.eventNames 2
      ++ ns.map fun n => ((.inserted, (n : Slot).val) : EventKind × Nat))).Nodup := by
  have hsections : (a.eventNames 0 ++ b.eventNames 1 ++ c.eventNames 2).Nodup := by
    refine List.nodup_append.mpr ⟨List.nodup_append.mpr ⟨a.eventNames_nodup 0, b.eventNames_nodup 1, ?_⟩,
      c.eventNames_nodup 2, ?_⟩
    · rintro p hp q hq rfl
      have := (Verdict.mem_eventNames hp).1
      have := (Verdict.mem_eventNames hq).1
      omega
    · rintro p hp q hq rfl
      have := (Verdict.mem_eventNames hq).1
      rcases List.mem_append.mp hp with h | h
      · have := (Verdict.mem_eventNames h).1
        omega
      · have := (Verdict.mem_eventNames h).1
        omega
  have hkind : ∀ p ∈ a.eventNames 0 ++ b.eventNames 1 ++ c.eventNames 2, p.1 = .storeCorrected ∨ p.1 = .storeSectionLost := by
    intro p hp
    simp only [List.mem_append] at hp
    rcases hp with (h | h) | h <;> exact (Verdict.mem_eventNames h).2
  have hinserted : (ns.map fun n => ((.inserted, (n : Slot).val) : EventKind × Nat)).Nodup :=
    hns.map fun m n h => Fin.ext (Prod.ext_iff.mp h).2
  refine List.nodup_append.mpr ⟨List.nodup_singleton _, List.nodup_append.mpr ⟨hsections, hinserted, ?_⟩, ?_⟩
  · rintro p hp q hq rfl
    obtain ⟨n, _, rfl⟩ := List.mem_map.mp hq
    have := hkind _ hp
    simp at this
  · rintro p hp q hq rfl
    obtain rfl := List.mem_singleton.mp hp
    rcases List.mem_append.mp hq with h | h
    · have := hkind _ h
      simp at this
    · simp at h

/-! ### The arrivals -/

/-- A slot that has arrived and is otherwise as after reset. -/
def SlotRecord.arrived : SlotRecord := { SlotRecord.fresh with state := .settling }

/-- The slot arrives at start-up: its watch is QUIET and its line reads present (R73). -/
def State.arrivesAtStart (s : State) (n : Slot) : Bool := s.watch n == .quiet && s.present[n]

/-- An EMPTY slot that was never bound becomes SETTLING; no band and no open swath make it do more. -/
theorem changeState_settling_fresh {s : State} {n : Slot} (hd : s.swath.descriptor = none) (h : s.slot n = .fresh) :
    s.changeState n .settling = s.onSlot n fun _ => .arrived := by
  have hslot (f : SlotRecord → SlotRecord) : s.onSlot n f = s.onSlot n fun _ => f (s.slot n) := rfl
  have hband : currentBand s.tables .arrived = .none := rfl
  have hrecompute : (s.onSlot n fun _ => .arrived).recompute n = s.onSlot n fun _ => .arrived := by
    simp only [State.recompute, slot_onSlot, State.onSlot_tables, hband]
    exact if_pos rfl
  rw [State.changeState, hslot, h]
  exact (congrArg (·.reEvaluate n) hrecompute).trans (if_neg (by simp [State.swathIsOpen, hd]))

/-- An arrival at start-up sets the watch, the slot's state and the event. -/
theorem startArrival_eq {s : State} {n : Slot} (hd : s.swath.descriptor = none) (h : s.slot n = .fresh) :
    s.startArrival n =
      if s.arrivesAtStart n then
        ((s.setWatch n (.arriving (some s.tables.insertSettle))).onSlot n fun _ => .arrived).raiseSlot .inserted n
      else s := by
  have harrive : s.arrive n =
      ((s.setWatch n (.arriving (some s.tables.insertSettle))).onSlot n fun _ => .arrived).raiseSlot .inserted n := by
    unfold State.arrive
    dsimp only
    rw [if_pos (by rw [h]; rfl), changeState_settling_fresh (s := s.setWatch n _) hd h]
    exact if_neg (by simp [State.swathIsOpen, hd])
  unfold State.startArrival State.arrivesAtStart
  split
  · rename_i hw
    simp only [hw, beq_self_eq_true, Bool.true_and, harrive]
  · rename_i hw
    simp only [beq_eq_false_iff_ne.mpr hw, Bool.false_and, Bool.false_eq_true, if_false]

theorem arrivesAtStart_congr {s t : State} {n : Slot} (hw : t.watch n = s.watch n) (hp : t.present = s.present) :
    t.arrivesAtStart n = s.arrivesAtStart n := by
  simp only [State.arrivesAtStart, hw, hp]

theorem slot_onSlot_ne (s : State) {m n : Slot} (h : m ≠ n) (f : SlotRecord → SlotRecord) : (s.onSlot n f).slot m = s.slot m := by
  simp only [State.slot, State.onSlot_slots, changeAt, Fin.getElem_fin]
  exact Vector.getElem_set_ne _ _ fun e => h (Fin.ext e).symm

theorem watch_setWatch (s : State) (n : Slot) (w : Watch) : (s.setWatch n w).watch n = w := by
  simp only [State.watch, State.setWatch_bus, changeAt, Fin.getElem_fin, Vector.getElem_set_self]

theorem watch_setWatch_ne (s : State) {m n : Slot} (h : m ≠ n) (w : Watch) : (s.setWatch n w).watch m = s.watch m := by
  simp only [State.watch, State.setWatch_bus, changeAt, Fin.getElem_fin]
  exact Vector.getElem_set_ne _ _ fun e => h (Fin.ext e).symm

/-- What the arrivals of the slots in a list leave: those that arrive at start-up are SETTLING, their watches ARRIVING, and their
events raised in the order of the list; nothing else changes (R73, R182). -/
structure State.ArrivalsOf (ns : List Slot) (s t : State) : Prop where
  frame : ∃ slots watches events,
    t = { s with slots := slots, bus := { s.bus with watches := watches }, events := events }
  slot : ∀ m, t.slot m = if m ∈ ns ∧ s.arrivesAtStart m = true then .arrived else s.slot m
  watch : ∀ m, t.watch m =
    if m ∈ ns ∧ s.arrivesAtStart m = true then .arriving (some s.tables.insertSettle) else s.watch m
  events : t.events = ((ns.filter s.arrivesAtStart).map fun n => (.inserted, n.val)).foldl raiseName s.events

/-- The arrivals of slots that are as after reset. -/
theorem startArrivals (ns : List Slot) {s : State} (hns : ns.Nodup) (hd : s.swath.descriptor = none)
    (hs : ∀ n ∈ ns, s.slot n = .fresh) : State.ArrivalsOf ns s (ns.foldl State.startArrival s) := by
  induction ns generalizing s with
  | nil => exact ⟨⟨s.slots, s.bus.watches, s.events, rfl⟩, by simp, by simp, rfl⟩
  | cons n ns ih =>
    obtain ⟨hn, hnodup⟩ := List.nodup_cons.mp hns
    have hne {m : Slot} (hm : m ∈ ns) : m ≠ n := fun e => hn (e ▸ hm)
    rw [List.foldl_cons, startArrival_eq hd (hs n List.mem_cons_self)]
    by_cases ha : s.arrivesAtStart n = true
    · rw [if_pos ha]
      set u := ((s.setWatch n (.arriving (some s.tables.insertSettle))).onSlot n fun _ => .arrived).raiseSlot .inserted n with hu
      have hslot (m : Slot) : u.slot m = if m = n then .arrived else s.slot m := by
        split
        · rename_i e
          rw [e]
          exact slot_onSlot _ n _
        · exact slot_onSlot_ne _ ‹_› _
      have hwatch (m : Slot) : u.watch m = if m = n then .arriving (some s.tables.insertSettle) else s.watch m := by
        split
        · rename_i e
          rw [e]
          exact watch_setWatch s n _
        · exact watch_setWatch_ne s ‹_› _
      have harrives {m : Slot} (hm : m ∈ ns) : u.arrivesAtStart m = s.arrivesAtStart m :=
        arrivesAtStart_congr (by rw [hwatch, if_neg (hne hm)]) rfl
      obtain ⟨⟨slots, watches, events, hframe⟩, hslots, hwatches, hevents⟩ := ih (s := u) hnodup hd fun m hm => by
        rw [hslot, if_neg (hne hm)]
        exact hs m (List.mem_cons_of_mem n hm)
      have hcons {α : Type} (m : Slot) (a b : α) :
          (if m ∈ ns ∧ u.arrivesAtStart m = true then a else if m = n then a else b)
            = if m ∈ n :: ns ∧ s.arrivesAtStart m = true then a else b := by
        by_cases e : m = n
        · simp [e, ha]
        · by_cases hm : m ∈ ns
          · simp [e, hm, harrives hm]
          · simp [e, hm]
      refine ⟨⟨slots, watches, events, hframe⟩, fun m => ?_, fun m => ?_, ?_⟩
      · rw [hslots, hslot, hcons]
      · rw [hwatches, hwatch]
        exact hcons m _ _
      · rw [hevents, List.filter_congr fun m hm => harrives hm, List.filter_cons_of_pos ha]
        rfl
    · rw [if_neg ha]
      obtain ⟨hframe, hslots, hwatches, hevents⟩ := ih hnodup hd fun m hm => hs m (List.mem_cons_of_mem n hm)
      have hcons (m : Slot) : (m ∈ n :: ns ∧ s.arrivesAtStart m = true) ↔ m ∈ ns ∧ s.arrivesAtStart m = true := by
        refine ⟨fun ⟨hm, hma⟩ => ⟨(List.mem_cons.mp hm).resolve_left fun e => ha (e ▸ hma), hma⟩, fun ⟨hm, hma⟩ =>
          ⟨List.mem_cons_of_mem n hm, hma⟩⟩
      refine ⟨hframe, fun m => ?_, fun m => ?_, ?_⟩
      · simp only [hslots, hcons]
      · simp only [hwatches, hcons]
      · rw [hevents, List.filter_cons_of_neg ha]

/-! ### Start-up -/

/-- The slots that arrive at start-up: enabled by the tables as loaded, with a line that reads present (R73). -/
def State.arrivesLoaded (s : State) (n : Slot) : Bool := s.store.loadedTables.sockets[n].enabled && s.present[n]

/-- The names of the events behind RESTART: those of the sections, then those of the arrivals (R181, R182). -/
def State.startNames (s : State) : List (EventKind × Nat) :=
  s.store.configVerdict.eventNames 0 ++ s.store.keysVerdict.eventNames 1 ++ s.store.knownVerdict.eventNames 2
    ++ (allSlots.filter s.arrivesLoaded).map fun n => (.inserted, n.val)

/-- The Event Unit once the events of start-up are raised: RESTART has closed the gate and made a NOTICE ready. -/
def State.startEvents (s : State) : EventUnit :=
  { EventUnit.fresh with
    pending := ⟨.restart, 0, restartDetail s.cause⟩ :: s.startNames.map fun p => ⟨p.1, p.2, 0#32⟩
    gateOpen := false
    noticeReady := true }

theorem mem_allSlots (n : Slot) : n ∈ allSlots := List.mem_finRange n

theorem allSlots_nodup : allSlots.Nodup := List.nodup_finRange 12

/-- RESTART and the names behind it, raised one after the other. -/
theorem startEvents_eq (s : State) :
    s.startNames.foldl raiseName (EventUnit.fresh.raise .restart 0 (restartDetail s.cause)) = s.startEvents := by
  rw [raise_restart_fresh]
  exact raiseNames_closed s.startNames rfl mem_allEventKinds
    (start_names_nodup _ _ _ (allSlots_nodup.filter s.arrivesLoaded))

/-- The state once RESTART and the events of the sections are raised (R182). -/
def State.reported (s : State) (straps : BitVec 4) : State :=
  { s.loaded straps with
    events :=
      (s.store.configVerdict.eventNames 0 ++ s.store.keysVerdict.eventNames 1 ++ s.store.knownVerdict.eventNames 2).foldl raiseName
        (EventUnit.fresh.raise .restart 0 (restartDetail s.cause)) }

/-- Start-up is the arrivals after the reports, and what the transmitters then begin. -/
theorem completeStart_reported (s : State) (straps : BitVec 4) :
    s.completeStart straps = (allSlots.foldl State.startArrival (s.reported straps)).sendNext := by
  rw [State.reported, List.foldl_append, List.foldl_append]
  simp only [State.completeStart, reportSection_eq]
  rfl

theorem reported_watch (s : State) (straps : BitVec 4) (n : Slot) :
    (s.reported straps).watch n = if s.store.loadedTables.sockets[n].enabled then .quiet else .disabled := by
  simp [State.watch, State.reported, State.loaded, Bus.fresh, startWatches]

theorem reported_slot (s : State) (straps : BitVec 4) (n : Slot) : (s.reported straps).slot n = .fresh := by
  simp [State.slot, State.reported, State.loaded]

theorem reported_arrivesAtStart (s : State) (straps : BitVec 4) (n : Slot) :
    (s.reported straps).arrivesAtStart n = s.arrivesLoaded n := by
  rw [State.arrivesAtStart, reported_watch, State.arrivesLoaded]
  cases s.store.loadedTables.sockets[n].enabled <;> rfl

/-- The events of the reports and of the arrivals are those of start-up. -/
theorem reported_events (s : State) (straps : BitVec 4) :
    ((allSlots.filter (s.reported straps).arrivesAtStart).map fun n => (.inserted, n.val)).foldl raiseName (s.reported straps).events
      = s.startEvents := by
  rw [← startEvents_eq, State.startNames, List.foldl_append, List.filter_congr fun n _ => reported_arrivesAtStart s straps n]
  rfl

/-- Start-up leaves every block as loaded but for the slots that arrive, the events, and the NOTICE that FMT OUT begins. -/
theorem completeStart_eq (s : State) (straps : BitVec 4) :
    ∃ slots watches,
      s.completeStart straps =
        { s.loaded straps with
          slots := slots
          bus := { (s.loaded straps).bus with watches := watches }
          link :=
            { Link.fresh straps with
              upTx := some (makeFrame .notice (Link.fresh straps).address s.startEvents.noticePayload) }
          events := { s.startEvents with noticeReady := false } }
      ∧ (∀ n : Slot, slots[n] = if s.arrivesLoaded n then SlotRecord.arrived else .fresh)
      ∧ ∀ n : Slot, watches[n] =
          if s.arrivesLoaded n then Watch.arriving (some s.store.loadedTables.insertSettle)
          else if s.store.loadedTables.sockets[n].enabled then .quiet else .disabled := by
  obtain ⟨⟨slots, watches, events, hframe⟩, hslots, hwatches, hevents⟩ :=
    startArrivals allSlots (s := s.reported straps) allSlots_nodup rfl fun n _ => reported_slot s straps n
  rw [reported_events] at hevents
  simp only [reported_arrivesAtStart, reported_slot, reported_watch, mem_allSlots, true_and] at hslots hwatches
  rw [completeStart_reported, sendNext_notice (by rw [hframe]; rfl) (by rw [hframe]; rfl) (by rw [hframe]; rfl)]
  rw [hframe] at hslots hwatches hevents ⊢
  obtain rfl : events = s.startEvents := hevents
  exact ⟨slots, watches, rfl, hslots, hwatches⟩

theorem exec_startUp {s : State} (hr : s.run = .reading) (straps : BitVec 4) :
    exec (.startUp straps) s = .next (s.completeStart straps) := congrArg Host.Outcome.next (if_pos hr)

theorem startEvents_names (s : State) : s.startEvents.pending.map Event.name = (.restart, 0) :: s.startNames := by
  simp [State.startEvents, Event.name, Function.comp_def]

/-- Settles O5: `completeStart_eq` says what every block is left as, and `judge_meaning` what the sections are judged to be. -/
theorem startUpLeavesEveryBlockAfterReset : Obligations.StartUpLeavesEveryBlockAfterReset := by
  refine ⟨fun straps s hr => ⟨_, exec_startUp hr straps, ?_⟩, fun _ parse v => judge_meaning parse v⟩
  obtain ⟨slots, watches, heq, hslots, hwatches⟩ := completeStart_eq s straps
  rw [heq]
  intro vc vk vn contents config known sectionEvent arrives
  refine ⟨⟨rfl, rfl, rfl, rfl, rfl⟩, rfl, rfl, rfl, rfl, fun n => ?_, fun n => ?_, ⟨rfl, rfl, rfl, rfl, rfl⟩, rfl, rfl, rfl, rfl,
    rfl, ?_, ?_, ⟨rfl, rfl, rfl, rfl, rfl⟩, rfl⟩
  · refine (hslots n).trans ?_
    change _ = ({ SlotRecord.fresh with state := if s.arrivesLoaded n then .settling else .empty } : SlotRecord)
    cases s.arrivesLoaded n <;> rfl
  · refine (hwatches n).trans ?_
    change _ = if s.store.loadedTables.sockets[n].enabled = false then _ else _
    unfold State.arrivesLoaded
    cases s.store.loadedTables.sockets[n].enabled <;> cases s.present[n] <;> rfl
  · exact startEvents_names s
  · cases hc : s.cause <;> simp [State.startEvents, hc, restartDetail]

end Sys2Proof.Machine
end

section
/-! PROOFS. O6: the defaults and the state after reset, which meets every invariant. -/

namespace Sys2Proof.Machine

/-- The part as it reads the store of log entry 12. -/
def State.beforeReset : State := { State.reset with run := .reading }

theorem parse_default_config : parseConfig (configImage defaultTables).bytes = some (configImage defaultTables) := by
  decide +kernel

theorem parse_default_keys : parseKeys (keysBytes defaultKeys) = some defaultKeys := by decide +kernel

theorem parse_empty_known : parseKnown (KnownImage.bytes ⟨[], 0#32, 0⟩) = some ⟨[], 0#32, 0⟩ := by decide +kernel

theorem factory_configVerdict : Store.factory.configVerdict = .loaded (configImage defaultTables) := by
  rw [Store.configVerdict, Store.factory, Section.judge_holding parse_default_config]

theorem factory_keysVerdict : Store.factory.keysVerdict = .loaded defaultKeys := by
  rw [Store.keysVerdict, Store.factory, Section.judge_holding parse_default_keys]

theorem factory_knownVerdict : Store.factory.knownVerdict = .loaded ⟨[], 0#32, 0⟩ := by
  rw [Store.knownVerdict, Store.factory, Section.judge_holding parse_empty_known]

/-- Sections that load the defaults leave the default tables. -/
theorem loadedTables_default {t : Store} (hc : t.configVerdict = .loaded (configImage defaultTables))
    (hk : t.keysVerdict = .loaded defaultKeys) : t.loadedTables = defaultTables := by
  rw [Store.loadedTables, hc, hk]
  rfl

theorem factory_loadedTables : Store.factory.loadedTables = defaultTables :=
  loadedTables_default factory_configVerdict factory_keysVerdict

theorem beforeReset_loadedTables : State.beforeReset.store.loadedTables = defaultTables := factory_loadedTables

theorem factory_loadedKnown : Store.factory.loadedKnown = ⟨[], 0#32, 0⟩ := by
  rw [Store.loadedKnown, factory_knownVerdict]
  rfl

theorem beforeReset_arrivesLoaded (n : Slot) : State.beforeReset.arrivesLoaded n = false := by
  have hline : State.beforeReset.present[n] = false := by simp [State.beforeReset, State.reset]
  rw [State.arrivesLoaded, hline, Bool.and_false]

/-- With intact sections and no line present RESTART is the one event. -/
theorem beforeReset_startEvents :
    State.beforeReset.startEvents =
      { EventUnit.fresh with pending := [⟨.restart, 0, 0#32⟩], gateOpen := false, noticeReady := true } := by
  have hnames : State.beforeReset.startNames = [] := by
    rw [State.startNames, List.filter_eq_nil_iff.mpr fun n _ => by rw [beforeReset_arrivesLoaded]; decide]
    rw [show State.beforeReset.store = Store.factory from rfl, factory_configVerdict, factory_keysVerdict, factory_knownVerdict]
    rfl
  rw [State.startEvents, hnames]
  rfl

theorem fresh_bus_default : Bus.fresh defaultTables false = State.reset.bus := by
  have hwatches : startWatches defaultTables = Vector.replicate 12 .quiet := by
    simp [startWatches, defaultTables, defaultSockets]
  rw [Bus.fresh, hwatches]
  rfl

theorem beforeReset_loaded :
    State.beforeReset.loaded 0#4 =
      { State.reset with
        link := Link.fresh 0#4
        events := EventUnit.fresh } := by
  have hstore : State.beforeReset.store = Store.factory := rfl
  simp only [State.loaded, hstore, factory_loadedTables, factory_loadedKnown]
  rw [show State.beforeReset.busLow = false from rfl, fresh_bus_default]
  rfl

/-- START_UP on the store of log entry 12 leaves the state after reset. -/
theorem completeStart_factory : State.beforeReset.completeStart 0#4 = State.reset := by
  obtain ⟨slots, watches, heq, hslots, hwatches⟩ := completeStart_eq .beforeReset 0#4
  have hslots' : slots = Vector.replicate 12 .fresh := Vector.ext fun i hi => by
    simpa [beforeReset_arrivesLoaded] using hslots ⟨i, hi⟩
  have hwatches' : watches = Vector.replicate 12 .quiet := Vector.ext fun i hi => by
    simpa [beforeReset_arrivesLoaded, beforeReset_loadedTables, defaultTables, defaultSockets] using hwatches ⟨i, hi⟩
  rw [heq, beforeReset_loaded, beforeReset_startEvents, hslots', hwatches']
  rfl

/-! ### The state after reset, slot by slot -/

theorem reset_slot (n : Slot) : State.reset.slot n = .fresh := by simp [State.slot, State.reset]

theorem reset_watch (n : Slot) : State.reset.watch n = .quiet := by simp [State.watch, State.reset]

theorem reset_boundSerial (n : Slot) : State.reset.boundSerial n = none := by
  simp [State.boundSerial, reset_slot, SlotRecord.fresh]

theorem reset_commit (n : Slot) : State.reset.commit n = ⟨.idle, false⟩ := by
  simp [State.commit, State.reset, CommitUnit.fresh]

/-! ### The invariants -/

theorem reset_linkBounded : State.reset.linkBounded :=
  (linkBounded_iff _).mpr ⟨⟨by decide, by decide, by decide, by decide, nofun, nofun, rfl⟩, by decide⟩

theorem reset_takenUp : State.reset.takenUp := fun _ => ⟨fun _ => rfl, nofun, fun h => absurd rfl h⟩

theorem reset_events_sound : State.reset.events.sound := by
  refine ⟨?_, ?_, ?_, ?_, ?_, ?_⟩ <;> decide

theorem reset_metered : State.reset.metered := by
  intro n
  rw [reset_slot]
  simp [State.reset, SlotRecord.fresh, subUnits]

theorem reset_columnsBounded : State.reset.columnsBounded :=
  ⟨nofun, fun i => by simp [State.reset, SwathPath.fresh], fun i => by simp [State.reset, SwathPath.fresh, DropCount.total]⟩

theorem reset_parkedClosed : State.reset.parkedClosed := fun _ => rfl

theorem reset_busSettled : State.reset.busSettled := by
  refine ⟨?_, ?_, ?_, ?_, ?_, ?_⟩ <;> decide

theorem defaultTables_sound : defaultTables.sound := by
  refine ⟨by decide, ?_, ?_, fun i => ?_, by decide, by decide, fun k => ?_⟩
  · unfold curveInRange
    decide
  · unfold thinInRange
    decide
  · simp [defaultTables, defaultDrop]
  · simp [defaultTables, defaultClasses, defaultClass]

theorem reset_tablesSound : State.reset.tablesSound := ⟨defaultTables_sound, ⟨trivial, trivial, trivial⟩, nofun⟩

theorem reset_bindingsAgree : State.reset.bindingsAgree := by
  refine ⟨fun n serial h => ?_, nofun, List.nodup_nil, Nat.zero_le _⟩
  rw [reset_boundSerial] at h
  cases h

theorem fresh_sound : SlotRecord.fresh.sound := by
  refine ⟨rfl, ?_, ?_, ?_, ?_⟩ <;> decide

theorem reset_slotsSound : State.reset.slotsSound := by
  intro n
  rw [reset_slot]
  exact ⟨fresh_sound, rfl⟩

theorem reset_watchesAgree : State.reset.watchesAgree := by
  intro n
  rw [reset_watch, reset_slot]
  refine ⟨?_, rfl, fun _ b hb => ?_, rfl⟩
  · simp [State.reset, defaultTables, defaultSockets]
  · cases hb
    simp [State.reset]

theorem reset_suspicionSettled : State.reset.suspicionSettled := nofun

theorem reset_commitsAgree : State.reset.commitsAgree := by
  refine fun _ => ⟨fun n => ?_, nofun⟩
  simp [State.commitAgrees, reset_commit]

/-- Settles O6. -/
theorem resetStateHoldsEveryInvariant : Obligations.ResetStateHoldsEveryInvariant :=
  ⟨by decide, rfl, rfl, rfl, rfl, rfl, rfl, rfl, fun _ => rfl,
    (exec_startUp (s := .beforeReset) rfl 0#4).trans (congrArg _ completeStart_factory),
    reset_linkBounded, reset_takenUp, reset_events_sound, reset_metered, reset_columnsBounded, reset_parkedClosed,
    reset_busSettled, reset_tablesSound, reset_bindingsAgree, reset_slotsSound, reset_watchesAgree, reset_suspicionSettled,
    reset_commitsAgree⟩

end Sys2Proof.Machine
end

section
/-! PROOFS. O4: RESET and RESET_RELEASE (R16, R36, R89, R180, R181). -/

namespace Sys2Proof.Machine

/-- A torn section's CRC is not that of its bytes, whatever they are (R180; log entry 11). -/
theorem torn_crc (k : Nat) : crc16 (Section.torn k).bytes ≠ (Section.torn k).crc := by
  have hd := (Config.tornDifference k).isLt
  intro h
  have hzero : BitVec.ofNat 16 ((Config.tornDifference k).val + 1) = 0#16 := by
    have hx : crc16 (Config.tornBytes k) ^^^ crc16 (Config.tornBytes k)
        = crc16 (Config.tornBytes k) ^^^ (crc16 (Config.tornBytes k) ^^^ BitVec.ofNat 16 ((Config.tornDifference k).val + 1)) :=
      congrArg _ h
    rw [← BitVec.xor_assoc, BitVec.xor_self, BitVec.zero_xor] at hx
    exact hx.symm
  have := congrArg BitVec.toNat hzero
  simp only [BitVec.toNat_ofNat] at this
  omega

/-- A stopped save keeps the write count and tears the section being written (R180). -/
theorem stopSave_meaning (t : Store) :
    t.stopSave.writeCount = t.writeCount ∧ t.stopSave.save = none
      ∧ match t.save with
        | none => t.stopSave = t
        | some v =>
          match v.writing with
          | .config =>
            crc16 t.stopSave.config.bytes ≠ t.stopSave.config.crc ∧ t.stopSave.keys = t.keys
              ∧ t.stopSave.known = t.known
          | .keys =>
            t.stopSave.config = t.config ∧ crc16 t.stopSave.keys.bytes ≠ t.stopSave.keys.crc
              ∧ t.stopSave.known = t.known
          | .known =>
            t.stopSave.config = t.config ∧ t.stopSave.keys = t.keys
              ∧ crc16 t.stopSave.known.bytes ≠ t.stopSave.known.crc := by
  unfold Store.stopSave
  rcases hs : t.save with _ | v
  · exact ⟨rfl, hs, rfl⟩
  · dsimp only
    rcases hw : v.writing with _ | _ | _
    · exact ⟨rfl, rfl, torn_crc _, rfl, rfl⟩
    · exact ⟨rfl, rfl, rfl, torn_crc _, rfl⟩
    · exact ⟨rfl, rfl, rfl, rfl, torn_crc _⟩

/-- Settles O4. -/
theorem resetStopsEveryBlock : Obligations.ResetStopsEveryBlock :=
  ⟨fun _ _ => rfl, fun _ => rfl, stopSave_meaning⟩

end Sys2Proof.Machine
end

section
/-! PROOFS. The link's commands (O23 to O28, O30): each is its rule's operation between the arrival of the frame and the end of the
command, spelled field by field. -/

namespace Sys2Proof.Machine

/-! ### Truncation (O30) -/

theorem truncate_gap {s : State} (h : s.swath.descriptor = none) : s.truncate = s ∧ s.truncationFrames = [] := by
  simp only [State.truncate, State.truncationFrames, h, and_self]

theorem truncate_open {s : State} {d : Descriptor} (h : s.swath.descriptor = some d) :
    s.truncate = ((s.handOver d).onSwath fun w => { w with descriptor := none }).raise .swathTruncated 0 d.number
      ∧ s.truncationFrames = [closeFrame d.number] := by
  simp only [State.truncate, State.truncationFrames, h, State.endSwath, and_self]

/-- The generated SWATH CLOSE, its length field 4 (R8, R34). -/
theorem closeFrame_eq (number : Word) :
    closeFrame number =
      ⟨.swathClose, 0#8, leBytes 4 number.toNat, crc16 (3#8 :: 0#8 :: 4#8 :: 0#8 :: leBytes 4 number.toNat)⟩ := by
  have hlength : leBytes 2 (leBytes 4 number.toNat).length = [4#8, 0#8] := by simp [leBytes]
  simp only [closeFrame, makeFrame, coveredBytes, hlength, FrameKind.code, List.cons_append, List.nil_append]

/-- Settles O30. -/
theorem truncationEndsTheOpenSwath : Obligations.TruncationEndsTheOpenSwath := by
  intro s
  rcases h : s.swath.descriptor with _ | d
  · exact truncate_gap h
  · obtain ⟨ht, hf⟩ := truncate_open h
    refine ⟨ht.trans ?_, ?_⟩
    · generalize s.handOver d = u
      rfl
    · rw [hf, closeFrame_eq]

/-! ### Link loss and link reset (O28) -/

theorem exec_linkLoss {s : State} (hr : s.run = .running) (hu : s.link.up = true) (ht : s.link.lossTimer.isSome = true) :
    exec .linkLoss s = .next s.loseLink.finish :=
  congrArg Host.Outcome.next ((whenRunning_running hr _).trans (if_pos ⟨hu, ht⟩))

/-- The truncation does not touch the link, so neither does what it leaves of it. -/
theorem emptyLink_eq (s : State) :
    s.emptyLink =
      { s.truncate with
        link := { s.truncate.link with forward := s.truncationFrames, replies := [], crcErrors := 0 }
        decoder := { s.truncate.decoder with requests := [] }
        events := s.truncate.events.openGate } := rfl

theorem loseLink_eq (s : State) :
    s.loseLink =
      { s.truncate with
        link :=
          { s.truncate.link with
            forward := s.truncationFrames
            replies := []
            crcErrors := 0
            up := false
            lossTimer := none
            receiver := none }
        decoder := { s.truncate.decoder with requests := [] }
        events := EventUnit.raise .linkLost 0 0#32 s.truncate.events.openGate } := rfl

/-- The row of a request that can be taken takes it and serves what is left. -/
theorem exec_linkReset {s : State} {r : Request} (hr : s.run = .running) (ho : s.offers r) (hc : r.code = 13#8) :
    exec .linkReset s = .next (s.takeRequest r (bare State.linkReset)).finish.serve := by
  have hf := (offers_iff s r).mp ho
  have hfront : s.frontOf 13#8 = some r := hc ▸ frontOf_some hf
  simp only [exec, execLinkReset, whenRunning_running hr, hfront, State.take]

/-- LINK RESET's reply, sent from the controller's address, is alone in the emptied reply queue (R15). -/
theorem takeRequest_linkReset {s : State} {r : Request} (ha : r.args = []) :
    s.takeRequest r (bare State.linkReset) =
      { s.popRequest.truncate with
        link :=
          { s.popRequest.truncate.link with
            forward := s.truncationFrames
            replies := [s.replyTo r .done []]
            crcErrors := 0 }
        decoder := { s.popRequest.truncate.decoder with requests := [] }
        events := s.popRequest.truncate.events.openGate } := by
  have hlink : s.popRequest.truncate.link = s.link := (truncate_offLink s.popRequest).link
  have haddress : s.popRequest.emptyLink.link.address = s.link.address := by
    rw [emptyLink_link]
    rfl
  have hact : bare State.linkReset s.popRequest r.args = done s.popRequest.emptyLink [] := if_pos ha
  rw [takeRequest_eq, hact]
  have hreply (u : State) (code tag status : Byte) : u.placeReply code tag status [] =
      { u with link := { u.link with replies := u.link.replies ++ [makeFrame .reply u.link.address [code, tag, status]] } } := rfl
  refine (hreply s.popRequest.emptyLink _ _ _).trans ?_
  rw [haddress, emptyLink_eq]
  rfl

/-- Settles O28. -/
theorem linkLossAndLinkResetEmptyTheQueues : Obligations.LinkLossAndLinkResetEmptyTheQueues := by
  refine ⟨fun s hr hu ht => ?_, fun r s hr ho hc => ?_⟩
  · rw [exec_linkLoss hr hu ht, loseLink_eq]
  · rw [exec_linkReset hr ho hc]
    by_cases ha : r.args = []
    · simp only [takeRequest_linkReset ha, ha, if_true]
      rfl
    · simp only [takeRequest_eq, bare, ha, if_false]
      rfl

/-! ### The transmitters (O27) -/

/-- Settles O27. -/
theorem transmittersTakeTheNextFrame : Obligations.TransmittersTakeTheNextFrame := by
  intro s hr
  constructor
  · have h : exec .downstreamSendEnd s =
        .next (if s.link.downTx.isSome then s.onLink fun l => ({ l with downTx := none } : Link).beginDown else s) :=
      congrArg Host.Outcome.next (whenRunning_running hr _)
    rw [h]
    rcases hd : s.link.downTx with _ | f
    · rfl
    · rcases hf : s.link.forward with _ | ⟨g, rest⟩
      · simp only [Option.isSome_some, if_true, State.onLink]
        rw [Link.beginDown_empty (l := { s.link with downTx := none }) hf]
      · simp only [Option.isSome_some, if_true, State.onLink]
        rw [Link.beginDown_cons (l := { s.link with downTx := none }) rfl hf]
  · have h : exec .upstreamSendEnd s =
        .next (if s.link.upTx.isSome then (s.onLink fun l => { l with upTx := none }).beginUp.serve else s) :=
      congrArg Host.Outcome.next (whenRunning_running hr _)
    rw [h]
    rcases hu : s.link.upTx with _ | f
    · rfl
    · simp only [Option.isSome_some, if_true]
      rcases hq : s.link.replies with _ | ⟨g, rest⟩
      · rcases hp : s.link.passThrough with _ | ⟨g, rest⟩
        · rw [beginUp_notice (s := s.onLink fun l => { l with upTx := none }) rfl hq hp]
          by_cases hn : s.events.noticeReady = true
          · simp only [State.onLink, State.onEvents, hn, if_true, hq, hp, Link.address]
          · simp only [State.onLink, State.onEvents, hn, if_false, hq, hp, Bool.false_eq_true,
              EventUnit.unready_eq (Bool.eq_false_of_not_eq_true hn)]
        · rw [beginUp_pass (s := s.onLink fun l => { l with upTx := none }) rfl hq hp]
          simp only [State.onLink, hq]
      · rw [beginUp_reply (s := s.onLink fun l => { l with upTx := none }) rfl hq]
        simp only [State.onLink]

/-! ### Frames that are discarded (O24) and taken (O23, O25, O26) -/

/-- A received frame is discarded: what R5 says of the link and of the Event Unit. -/
theorem discardFrame_eq (s : State) :
    s.discardFrame =
      { s with
        link := { s.link with crcErrors := min (s.link.crcErrors + 1) 65535 }
        events := EventUnit.raise .linkCrc 0 0#32 s.events } := rfl

theorem exec_swathOpen {s : State} (hr : s.run = .running) (f : RxFrame) :
    exec (.swathOpen f) s = .next (s.receiveFmt .swathOpen f).finish := congrArg Host.Outcome.next (whenRunning_running hr _)

theorem exec_fire {s : State} (hr : s.run = .running) (f : RxFrame) :
    exec (.fire f) s = .next (s.receiveFmt .fire f).sendNext := congrArg Host.Outcome.next (whenRunning_running hr _)

theorem exec_swathClose {s : State} (hr : s.run = .running) (f : RxFrame) :
    exec (.swathClose f) s = .next (s.receiveFmt .swathClose f).finish := congrArg Host.Outcome.next (whenRunning_running hr _)

theorem exec_requestFrame {s : State} (hr : s.run = .running) (f : RxFrame) :
    exec (.requestFrame f) s = .next (s.receiveFmt .request f).sendNext.serve :=
  congrArg Host.Outcome.next (whenRunning_running hr _)

theorem exec_headStatus {s : State} (hr : s.run = .running) (f : RxFrame) :
    exec (.headStatus f) s = .next (s.receiveHead .headStatus f).sendNext :=
  congrArg Host.Outcome.next (whenRunning_running hr _)

theorem exec_passThroughFrame {s : State} (hr : s.run = .running) (k : PassKind) (f : RxFrame) :
    exec (.passThroughFrame k f) s = .next (s.receiveHead (passFrameKind k) f).sendNext :=
  congrArg Host.Outcome.next (whenRunning_running hr _)

theorem exec_linkSymbol {s : State} (hr : s.run = .running) (x : Symbol) :
    exec (.linkSymbol x) s = .next (s.symbolArrives.receiveSymbol x).finish.serve :=
  congrArg Host.Outcome.next (whenRunning_running hr _)

theorem exec_discardedFrame {s : State} (hr : s.run = .running) {d : Discarded} (hd : discarded d = true) :
    exec (.discardedFrame d) s = .next (s.receiveDiscarded d).sendNext :=
  congrArg Host.Outcome.next ((whenRunning_running hr _).trans (if_pos hd))

/-- A frame that passes its checks is taken after its arrival; another is discarded after it. -/
theorem receiveFmt_accepted {k : FrameKind} {f : RxFrame} (h : accepted k f = true) (s : State) :
    s.receiveFmt k f = s.frameArrives.takeFmtFrame k f := if_pos h

theorem receiveFmt_rejected {k : FrameKind} {f : RxFrame} (h : accepted k f = false) (s : State) :
    s.receiveFmt k f = s.frameArrives.discardFrame := if_neg (by rw [h]; exact Bool.false_ne_true)

theorem receiveHead_accepted {k : FrameKind} {f : RxFrame} (h : accepted k f = true) (s : State) :
    s.receiveHead k f = s.headFrameArrives.takeHeadFrame k f := if_pos h

theorem receiveHead_rejected {k : FrameKind} {f : RxFrame} (h : accepted k f = false) (s : State) :
    s.receiveHead k f = s.headFrameArrives.discardFrame := if_neg (by rw [h]; exact Bool.false_ne_true)

/-! ### Symbols (O23) -/

theorem receive_data_room {bytes : List Byte} (b : Byte) (h : bytes.length < 4102) :
    receive (some bytes) (.data b) = (some (bytes ++ [b]), .nothing) := if_pos h

theorem receive_data_full {bytes : List Byte} (b : Byte) (h : ¬bytes.length < 4102) :
    receive (some bytes) (.data b) = (none, .incomplete) := if_neg h

/-- A symbol on FMT IN by what it completes in the receiver (R1, R5). -/
theorem receiveSymbol_nothing {s : State} {x : Symbol} {r : Option (List Byte)} (h : receive s.link.receiver x = (r, .nothing)) :
    s.receiveSymbol x = s.setReceiver r := by
  simp only [State.receiveSymbol, h]

theorem receiveSymbol_incomplete {s : State} {x : Symbol} {r : Option (List Byte)}
    (h : receive s.link.receiver x = (r, .incomplete)) : s.receiveSymbol x = (s.setReceiver r).discardFrame := by
  simp only [State.receiveSymbol, h]

theorem receiveSymbol_accepted {s : State} {x : Symbol} {r : Option (List Byte)} {bytes : List Byte} {k : FrameKind} {f : RxFrame}
    (h : receive s.link.receiver x = (r, .whole bytes)) (ha : acceptedFrame fmtKind bytes = some (k, f)) :
    s.receiveSymbol x = (s.setReceiver r).takeFmtFrame k f := by
  simp only [State.receiveSymbol, h, ha]

theorem receiveSymbol_rejected {s : State} {x : Symbol} {r : Option (List Byte)} {bytes : List Byte}
    (h : receive s.link.receiver x = (r, .whole bytes)) (ha : acceptedFrame fmtKind bytes = none) :
    s.receiveSymbol x = (s.setReceiver r).discardFrame := by
  simp only [State.receiveSymbol, h, ha]

/-- A symbol on HEAD IN by what it completes in the receiver (R1, R5). -/
theorem receiveHeadSymbol_nothing {s : State} {x : Symbol} {r : Option (List Byte)}
    (h : receive s.link.headReceiver x = (r, .nothing)) : s.receiveHeadSymbol x = s.setHeadReceiver r := by
  simp only [State.receiveHeadSymbol, h]

theorem receiveHeadSymbol_incomplete {s : State} {x : Symbol} {r : Option (List Byte)}
    (h : receive s.link.headReceiver x = (r, .incomplete)) : s.receiveHeadSymbol x = (s.setHeadReceiver r).discardFrame := by
  simp only [State.receiveHeadSymbol, h]

theorem receiveHeadSymbol_accepted {s : State} {x : Symbol} {r : Option (List Byte)} {bytes : List Byte} {k : FrameKind}
    {f : RxFrame} (h : receive s.link.headReceiver x = (r, .whole bytes)) (ha : acceptedFrame headKind bytes = some (k, f)) :
    s.receiveHeadSymbol x = (s.setHeadReceiver r).takeHeadFrame k f := by
  simp only [State.receiveHeadSymbol, h, ha]

theorem receiveHeadSymbol_rejected {s : State} {x : Symbol} {r : Option (List Byte)} {bytes : List Byte}
    (h : receive s.link.headReceiver x = (r, .whole bytes)) (ha : acceptedFrame headKind bytes = none) :
    s.receiveHeadSymbol x = (s.setHeadReceiver r).discardFrame := by
  simp only [State.receiveHeadSymbol, h, ha]

/-- Settles O23. -/
theorem symbolsBuildFrames : Obligations.SymbolsBuildFrames := by
  refine ⟨fun f s hr => ⟨fun ha => ?_, fun ha => ?_, fun ha => ?_, fun ha => ?_, fun ha => ?_, fun ha => ?_, fun ha => ?_⟩,
    fun x s hr => ⟨?_, ?_⟩⟩
  · rw [exec_swathOpen hr, receiveFmt_accepted ha]
  · rw [exec_fire hr, receiveFmt_accepted ha]
  · rw [exec_swathClose hr, receiveFmt_accepted ha]
  · rw [exec_requestFrame hr, receiveFmt_accepted ha]
  · rw [exec_headStatus hr, receiveHead_accepted ha]
  · rw [exec_passThroughFrame hr, passFrameKind, receiveHead_accepted ha]
  · rw [exec_passThroughFrame hr, passFrameKind, receiveHead_accepted ha]
  · rw [exec_linkSymbol hr]
    refine congrArg (fun u : State => Host.Outcome.next u.finish.serve) ?_
    have hreceiver : s.symbolArrives.link.receiver = s.link.receiver := rfl
    rcases hb : s.link.receiver with _ | bytes <;> rw [hb] at hreceiver
    · cases x <;> exact receiveSymbol_nothing (by rw [hreceiver]; rfl)
    · cases x with
      | start | fill => exact receiveSymbol_incomplete (by rw [hreceiver]; rfl)
      | data b =>
        dsimp only
        split
        · exact receiveSymbol_nothing (by rw [hreceiver, receive_data_room b ‹_›])
        · exact receiveSymbol_incomplete (by rw [hreceiver, receive_data_full b ‹_›])
      | stop =>
        dsimp only
        split
        · exact receiveSymbol_accepted (by rw [hreceiver]; rfl) ‹_›
        · exact receiveSymbol_rejected (by rw [hreceiver]; rfl) ‹_›
  · rw [exec_discardedFrame hr rfl]
    refine congrArg (fun u : State => Host.Outcome.next u.sendNext) ?_
    rcases hb : s.link.headReceiver with _ | bytes
    · cases x <;> exact receiveHeadSymbol_nothing (by rw [hb]; rfl)
    · cases x with
      | start => exact receiveHeadSymbol_incomplete (x := .start) (r := some []) (by rw [hb]; rfl)
      | fill => exact receiveHeadSymbol_incomplete (x := .fill) (r := none) (by rw [hb]; rfl)
      | data b =>
        dsimp only
        split
        · exact receiveHeadSymbol_nothing (by rw [hb, receive_data_room b ‹_›])
        · exact receiveHeadSymbol_incomplete (by rw [hb, receive_data_full b ‹_›])
      | stop =>
        dsimp only
        split
        · exact receiveHeadSymbol_accepted (by rw [hb]; rfl) ‹_›
        · exact receiveHeadSymbol_rejected (x := .stop) (r := none) (bytes := bytes) (by rw [hb]; rfl) ‹_›

/-! ### REQUEST frames (O25) -/

theorem isAddressed_iff (s : State) (destination : Byte) :
    s.isAddressed destination = true
      ↔ (destination ^^^ (0xA0#8 + s.link.strap.setWidth 8)) &&& ~~~(BitVec.ofNat 8 s.tables.settings[23]) = 0#8 := beq_iff_eq

/-- The arrival of a frame leaves the strap and the tables. -/
theorem frameArrives_eq (s : State) :
    s.frameArrives =
      if s.link.receiver.isSome then (s.symbolArrives.discardFrame).setReceiver none else s.symbolArrives := rfl

theorem frameArrives_isAddressed (s : State) (destination : Byte) :
    s.frameArrives.isAddressed destination = s.isAddressed destination := by
  unfold State.frameArrives
  dsimp only
  split <;> rfl

/-- Settles O25. -/
theorem requestFramesAreTakenOrForwarded : Obligations.RequestFramesAreTakenOrForwarded := by
  intro f s hr ha
  dsimp only
  rw [exec_requestFrame hr, receiveFmt_accepted ha]
  refine congrArg (fun u : State => Host.Outcome.next u.sendNext.serve) ?_
  change s.frameArrives.takeRequestFrame f = _
  unfold State.takeRequestFrame
  rw [frameArrives_isAddressed]
  by_cases haddressed : s.isAddressed f.destination = true
  · rw [if_pos haddressed, if_pos ((isAddressed_iff _ _).mp haddressed)]
    rfl
  · rw [if_neg haddressed, if_neg (mt (isAddressed_iff _ _).mpr haddressed)]
    have hplaces : s.frameArrives.hasPlaces 1 = true ↔ s.frameArrives.link.forward.length ≤ 3 := by
      simp only [State.hasPlaces, decide_eq_true_eq]
      omega
    simp only [hplaces]
    rfl

end Sys2Proof.Machine
end

section
/-! PROOFS. O26: what is received on HEAD IN (R10, R43 to R47). -/

namespace Sys2Proof.Machine

/-! ### The arrival of a frame on HEAD IN -/

theorem headFrameArrives_heads (s : State) : s.headFrameArrives.heads = s.heads := by
  unfold State.headFrameArrives
  split <;> rfl

theorem headFrameArrives_tables (s : State) : s.headFrameArrives.tables = s.tables := by
  unfold State.headFrameArrives
  split <;> rfl

theorem headFrameArrives_passThrough (s : State) : s.headFrameArrives.link.passThrough = s.link.passThrough := by
  unfold State.headFrameArrives
  split <;> rfl

/-- The pass-through queue with a frame placed in it (R10). -/
def Link.withPassed (l : Link) (g : Frame) : List Frame :=
  (if l.passThrough.length < 8 then l.passThrough else l.passThrough.drop 1) ++ [g]

/-- After the arrival of a frame on HEAD IN the pass-through queue takes it as before. -/
theorem headFrameArrives_pass (s : State) (g : Frame) :
    s.headFrameArrives.passThrough g =
      { s.headFrameArrives with link := { s.headFrameArrives.link with passThrough := s.link.withPassed g } } := by
  have h : s.headFrameArrives.link.withPassed g = s.link.withPassed g := by
    simp only [Link.withPassed, headFrameArrives_passThrough]
  rw [← h]
  rfl

/-! ### Reading a report -/

/-- The slew of R45 in the order in which it is stated there: the reported temperature where it is near enough, else the nearest
the limit allows. -/
theorem slew_eq (limit : Nat) (tracked reported : Int) :
    slew limit tracked reported =
      if tracked - limit ≤ reported ∧ reported ≤ tracked + limit then reported
      else if tracked + limit < reported then tracked + limit else tracked - limit := by
  unfold slew
  split_ifs <;> omega

/-- A valid report for a head moves its record (R43 to R45). -/
theorem readStatus_valid {s : State} {p : List Byte} {h : Head} (hh : (byteAt p 0).toNat = h.val)
    (hv : (byteAt p 1).getLsbD 0 = true) :
    s.readStatus p = s.onHead h (validReport s.tables (clampTemperature (statusTemperature p))) := by
  have hlt : statusHead p < 4 := by
    rw [statusHead, hh]
    exact h.isLt
  have hhead : (⟨statusHead p, hlt⟩ : Head) = h := Fin.ext hh
  unfold State.readStatus
  rw [dif_pos hlt, if_pos (show statusValid p = true from hv), hhead]

/-- A report for no head, or without the sensor-valid flag, is not read (R43, R46). -/
theorem readStatus_other {s : State} {p : List Byte} (h : 3 < (byteAt p 0).toNat ∨ (byteAt p 1).getLsbD 0 = false) :
    s.readStatus p = s := by
  unfold State.readStatus
  split
  · rename_i hlt
    have hlt' : ¬3 < (byteAt p 0).toNat := Nat.not_lt.mpr (Nat.lt_succ_iff.mp hlt)
    exact if_neg (by rw [statusValid, h.resolve_left hlt']; exact Bool.false_ne_true)
  · rfl

/-- A valid report, read after the arrival of its frame, joins the pass-through queue (R10, R43). -/
theorem headFrameArrives_onHead_pass (s : State) (h : Head) (f : HeadRecord → HeadRecord) (g : Frame) :
    (s.headFrameArrives.onHead h f).passThrough g =
      { s.headFrameArrives with
        heads := s.heads.set h.val (f s.heads[h])
        link := { s.headFrameArrives.link with passThrough := s.link.withPassed g } } := by
  have hpass : (s.headFrameArrives.onHead h f).passThrough g =
      { s.headFrameArrives.passThrough g with heads := changeAt s.headFrameArrives.heads h f } := rfl
  rw [hpass, headFrameArrives_pass, headFrameArrives_heads]
  rfl

theorem takeHeadFrame_status (s : State) (f : RxFrame) :
    s.takeHeadFrame .headStatus f = (s.readStatus f.payload).passThrough (asReceived .headStatus f) := rfl

/-- Settles O26. -/
theorem headReportsAreReadAndPassedThrough : Obligations.HeadReportsAreReadAndPassedThrough := by
  intro s hr
  refine ⟨fun f h ha hh hv => ?_, fun f ha hother => ?_, fun f ha => ?_, fun f ha => ?_, fun h => ?_⟩
  · rw [exec_headStatus hr, receiveHead_accepted ha, takeHeadFrame_status, readStatus_valid hh hv]
    refine congrArg (fun u : State => Host.Outcome.next u.sendNext) ?_
    rw [headFrameArrives_onHead_pass]
    simp only [headFrameArrives_tables, validReport, slew_eq]
    rfl
  · rw [exec_headStatus hr, receiveHead_accepted ha, takeHeadFrame_status, readStatus_other hother, headFrameArrives_pass]
    rfl
  · rw [exec_passThroughFrame hr, passFrameKind, receiveHead_accepted ha]
    exact congrArg (fun u : State => Host.Outcome.next u.sendNext) (headFrameArrives_pass s _)
  · rw [exec_passThroughFrame hr, passFrameKind, receiveHead_accepted ha]
    exact congrArg (fun u : State => Host.Outcome.next u.sendNext) (headFrameArrives_pass s _)
  · exact congrArg Host.Outcome.next (whenRunning_running hr _)

end Sys2Proof.Machine
end

section
/-! PROOFS. O24: the envelope's bytes, CRC and checks (R1 to R5), and what becomes of a frame that fails them or finds no place. -/

namespace Sys2Proof.Machine

/-! ### Bytes and fields -/

/-- A field is its first byte and 256 times the field behind it. -/
theorem leField_succ (bs : List Byte) (i k : Nat) :
    leField bs i (k + 1) = (byteAt bs i).toNat + 256 * leField bs (i + 1) k := by
  by_cases hi : i < bs.length
  · simp only [leField, byteAt, List.drop_eq_getElem_cons hi, List.take_succ_cons, leValue,
      List.getD_eq_getElem bs 0#8 hi]
  · have hd : bs.drop i = [] := List.drop_eq_nil_of_le (Nat.not_lt.mp hi)
    have hd' : bs.drop (i + 1) = [] := List.drop_eq_nil_of_le (by omega)
    simp [leField, byteAt, hd, hd', leValue, List.getElem?_eq_none (Nat.not_lt.mp hi)]

theorem leField_zero (bs : List Byte) (i : Nat) : leField bs i 0 = 0 := by
  simp [leField, leValue]

theorem leField_two (bs : List Byte) (i : Nat) :
    leField bs i 2 = (byteAt bs i).toNat + 256 * (byteAt bs (i + 1)).toNat := by
  simp only [leField_succ, leField_zero]
  omega

theorem leField_four (bs : List Byte) (i : Nat) :
    leField bs i 4 =
      (byteAt bs i).toNat + 256 * (byteAt bs (i + 1)).toNat + 65536 * (byteAt bs (i + 2)).toNat
        + 16777216 * (byteAt bs (i + 3)).toNat := by
  simp only [leField_succ, leField_zero, Nat.add_assoc, Nat.reduceAdd]
  omega

theorem signed16_eq {v : Nat} (h : v < 65536) : signed16 v = if v < 32768 then (v : Int) else (v : Int) - 65536 := by
  have hmod : v % 65536 = v := Nat.mod_eq_of_lt h
  rw [signed16, BitVec.toInt_eq_toNat_cond]
  simp only [BitVec.toNat_ofNat, Nat.reducePow, hmod]
  split_ifs <;> omega

/-! ### The CRC-16 -/

/-- Folding a step over a range repeats it. -/
theorem foldl_range_eq_repeat {α : Type} (f : α → α) (n : Nat) (a : α) :
    (List.range n).foldl (fun c _ => f c) a = Nat.repeat f n a := by
  induction n with
  | zero => rfl
  | succ n ih => rw [List.range_succ, List.foldl_append, ih]; rfl

theorem crc16_append (bs : List Byte) (b : Byte) :
    crc16 (bs ++ [b]) =
      (List.range 8).foldl (fun c _ => if c.getLsbD 15 then (c <<< 1) ^^^ 0x1021#16 else c <<< 1)
        (crc16 bs ^^^ (b.setWidth 16 <<< 8)) := by
  have hbit : (fun c : BitVec 16 => if c.getLsbD 15 then (c <<< 1) ^^^ 0x1021#16 else c <<< 1) = crc16Bit := by
    funext c
    rw [crc16Bit, BitVec.msb_eq_getLsbD_last]
  rw [foldl_range_eq_repeat, hbit, crc16, List.foldl_append]
  rfl

/-! ### The checks of the envelope -/

/-- The length checks, kind by kind (R4). -/
theorem lengthAgrees_swathOpen (p : List Byte) :
    lengthAgrees .swathOpen p = true ↔
      1 ≤ (byteAt p 6).toNat ∧ (byteAt p 6).toNat ≤ 4 ∧ (byteAt p 7).toNat ≤ 2
        ∧ p.length = 8 + 2 * (byteAt p 6).toNat + 4 * (byteAt p 7).toNat
        ∧ ∀ i < (byteAt p 6).toNat, (byteAt p (8 + 2 * i)).toNat ≤ 3 := by
  simp only [lengthAgrees, openHeads, Bool.and_eq_true, decide_eq_true_eq, List.all_map, List.all_eq_true, List.mem_range,
    Function.comp_apply]
  simp only [openHeadCount, openWindowCount]
  constructor
  · rintro ⟨⟨⟨⟨⟨_, h1⟩, h4⟩, hw⟩, hl⟩, hh⟩
    exact ⟨h1, h4, hw, hl, hh⟩
  · rintro ⟨h1, h4, hw, hl, hh⟩
    exact ⟨⟨⟨⟨⟨by omega, h1⟩, h4⟩, hw⟩, hl⟩, hh⟩

theorem lengthAgrees_fire (p : List Byte) :
    lengthAgrees .fire p = true ↔
      1 ≤ (byteAt p 4).toNat ∧ (byteAt p 4).toNat ≤ 16 ∧ p.length = 5 + 128 * (byteAt p 4).toNat := by
  simp only [lengthAgrees, Bool.and_eq_true, decide_eq_true_eq]
  simp only [fireCount, columnBytes]
  constructor
  · rintro ⟨⟨⟨_, h1⟩, h16⟩, hl⟩
    exact ⟨h1, h16, hl⟩
  · rintro ⟨h1, h16, hl⟩
    exact ⟨⟨⟨by omega, h1⟩, h16⟩, hl⟩

/-- The four checks of a received frame (R1, R2, R4). -/
theorem accepted_iff (k : FrameKind) (f : RxFrame) :
    accepted k f = true ↔
      f.payload.length ≤ 4096 ∧ f.payload.length = f.lengthField.toNat
        ∧ crc16 (k.code :: f.destination :: (leBytes 2 f.lengthField.toNat ++ f.payload)) = f.crc
        ∧ lengthAgrees k f.payload = true := by
  simp only [accepted, crcMatches, coveredBytes, Bool.and_eq_true, decide_eq_true_eq, beq_iff_eq]
  simp only [maxPayload]
  constructor
  · rintro ⟨⟨⟨hmax, hlength⟩, hkind⟩, hcrc⟩
    exact ⟨hmax, hlength, hcrc, hkind⟩
  · rintro ⟨hmax, hlength, hcrc, hkind⟩
    exact ⟨⟨⟨hmax, hlength⟩, hkind⟩, hcrc⟩

/-! ### Whole frames -/

/-- The bytes between START and END of a frame of a kind byte (The Frame Envelope). -/
def wholeBytes (b : Byte) (f : RxFrame) : List Byte :=
  b :: f.destination :: (leBytes 2 f.lengthField.toNat ++ f.payload ++ leBytes 2 f.crc.toNat)

/-- Two bytes, least significant first, are those of the number they stand for. -/
theorem leBytes_two (l m : Byte) : leBytes 2 (BitVec.ofNat 16 (l.toNat + 256 * m.toNat)).toNat = [l, m] := by
  have hl := l.isLt
  have hm := m.isLt
  simp only [leBytes, List.cons.injEq, and_true, BitVec.toNat_ofNat]
  constructor <;> apply BitVec.eq_of_toNat_eq <;> simp only [BitVec.toNat_ofNat] <;> omega

/-- Every 16-bit number is that of two bytes. -/
theorem exists_two_bytes (w : BitVec 16) : ∃ l m : Byte, w = BitVec.ofNat 16 (l.toNat + 256 * m.toNat) := by
  have hw := w.isLt
  refine ⟨BitVec.ofNat 8 w.toNat, BitVec.ofNat 8 (w.toNat / 256), BitVec.eq_of_toNat_eq ?_⟩
  simp only [BitVec.toNat_ofNat]
  omega

/-- The bytes of a whole frame are read as that frame. -/
theorem parseFrame_wholeBytes (b : Byte) (f : RxFrame) : parseFrame (wholeBytes b f) = some (b, f) := by
  obtain ⟨d, n, p, c⟩ := f
  obtain ⟨n0, n1, rfl⟩ := exists_two_bytes n
  obtain ⟨c0, c1, rfl⟩ := exists_two_bytes c
  have hbytes : wholeBytes b ⟨d, BitVec.ofNat 16 (n0.toNat + 256 * n1.toNat), p, BitVec.ofNat 16 (c0.toNat + 256 * c1.toNat)⟩
      = b :: d :: n0 :: n1 :: (p ++ [c0, c1]) := by
    simp only [wholeBytes, leBytes_two, List.cons_append, List.nil_append]
  have hlength : (b :: d :: n0 :: n1 :: (p ++ [c0, c1])).length = p.length + 6 := by simp
  rw [hbytes, parseFrame, if_pos (by omega), hlength, leField_two, leField_two]
  simp [byteAt]

/-- Six bytes or more are the bytes of a whole frame. -/
theorem exists_wholeBytes {bytes : List Byte} (h : 6 ≤ bytes.length) : ∃ b f, bytes = wholeBytes b f := by
  match bytes, h with
  | b :: d :: n0 :: n1 :: rest, h =>
    have hrest : 2 ≤ rest.length := by simpa using h
    obtain ⟨c0, c1, hc⟩ : ∃ c0 c1, rest.drop (rest.length - 2) = [c0, c1] := by
      apply List.length_eq_two.mp
      rw [List.length_drop]
      omega
    refine ⟨b, ⟨d, BitVec.ofNat 16 (n0.toNat + 256 * n1.toNat), rest.take (rest.length - 2),
      BitVec.ofNat 16 (c0.toNat + 256 * c1.toNat)⟩, ?_⟩
    simp only [wholeBytes, leBytes_two, List.cons_append, List.nil_append, ← hc, List.take_append_drop]

theorem parseFrame_iff (bytes : List Byte) (b : Byte) (f : RxFrame) :
    parseFrame bytes = some (b, f) ↔ bytes = wholeBytes b f := by
  constructor
  · intro h
    have hlength : 6 ≤ bytes.length := by
      by_contra hlt
      rw [parseFrame, if_neg hlt] at h
      cases h
    obtain ⟨b', f', rfl⟩ := exists_wholeBytes hlength
    rw [parseFrame_wholeBytes, Option.some.injEq, Prod.mk.injEq] at h
    rw [h.1, h.2]
  · rintro rfl
    exact parseFrame_wholeBytes b f

theorem acceptedFrame_iff (lane : Byte → Option FrameKind) (bytes : List Byte) (k : FrameKind) (f : RxFrame) :
    acceptedFrame lane bytes = some (k, f) ↔ ∃ b, bytes = wholeBytes b f ∧ lane b = some k ∧ accepted k f = true := by
  constructor
  · intro h
    unfold acceptedFrame at h
    split at h
    · rename_i b f' hp
      split at h
      · rename_i k' hk
        split at h
        · cases h
          exact ⟨b, (parseFrame_iff _ _ _).mp hp, hk, ‹_›⟩
        · cases h
      · cases h
    · cases h
  · rintro ⟨b, rfl, hk, ha⟩
    simp only [acceptedFrame, parseFrame_wholeBytes, hk, ha, if_true]

theorem fmtKind_iff (b : Byte) (k : FrameKind) :
    fmtKind b = some k ↔ k ∈ [FrameKind.swathOpen, .fire, .swathClose, .request] ∧ b = k.code := by
  unfold fmtKind
  split_ifs with h1 h2 h3 h4 <;> cases k <;> simp_all [FrameKind.code]

theorem headKind_iff (b : Byte) (k : FrameKind) :
    headKind b = some k ↔ k ∈ [FrameKind.headStatus, .reply, .notice] ∧ b = k.code := by
  unfold headKind
  split_ifs with h1 h2 h3 <;> cases k <;> simp_all [FrameKind.code]

/-- The frames that pass the checks of a lane, with the lane's kinds and their bytes (R1 to R5). -/
theorem acceptedFrame_lane {lane : Byte → Option FrameKind} {kinds : List FrameKind}
    (hlane : ∀ b k, lane b = some k ↔ k ∈ kinds ∧ b = k.code) (bytes : List Byte) (k : FrameKind) (f : RxFrame) :
    acceptedFrame lane bytes = some (k, f) ↔ k ∈ kinds ∧ bytes = wholeBytes k.code f ∧ accepted k f = true := by
  rw [acceptedFrame_iff]
  constructor
  · rintro ⟨b, rfl, hk, ha⟩
    obtain ⟨hmem, rfl⟩ := (hlane b k).mp hk
    exact ⟨hmem, rfl, ha⟩
  · rintro ⟨hmem, rfl, ha⟩
    exact ⟨k.code, rfl, (hlane _ _).mpr ⟨hmem, rfl⟩, ha⟩

/-! ### Frames that find no place -/

theorem frameArrives_forward (s : State) : s.frameArrives.link.forward = s.link.forward := by
  unfold State.frameArrives
  dsimp only
  split <;> rfl

/-- Where fewer than `n` places of the forward queue are free, the frame that has arrived does not find `n`. -/
theorem frameArrives_hasNoPlaces {s : State} {n : Nat} (h : 4 < s.link.forward.length + n) :
    s.frameArrives.hasPlaces n = false := by
  rw [State.hasPlaces, frameArrives_forward]
  exact decide_eq_false (Nat.not_le.mpr h)

/-- A frame that fails a check, or whose taking would discard it for want of a place, is discarded. -/
theorem receiveFmt_discards {s : State} {k : FrameKind} {f : RxFrame} {full : Prop} (h : accepted k f = false ∨ full)
    (hfull : full → s.frameArrives.takeFmtFrame k f = s.frameArrives.discardFrame) :
    s.receiveFmt k f = s.frameArrives.discardFrame := by
  cases ha : accepted k f with
  | false => exact receiveFmt_rejected ha s
  | true => exact (receiveFmt_accepted ha s).trans (hfull (h.resolve_left (ne_false_of_eq_true ha)))

theorem takeFmtFrame_swathOpen_noPlace {s : State} (h : s.hasPlaces 2 = false) (f : RxFrame) :
    s.takeFmtFrame .swathOpen f = s.discardFrame := if_neg (ne_true_of_eq_false h)

theorem takeFmtFrame_fire_noPlace {s : State} (h : s.hasPlaces 1 = false) (f : RxFrame) :
    s.takeFmtFrame .fire f = s.discardFrame := if_neg (ne_true_of_eq_false h)

theorem takeFmtFrame_swathClose_noPlace {s : State} (h : s.hasPlaces 1 = false) (f : RxFrame) :
    s.takeFmtFrame .swathClose f = s.discardFrame := if_neg (ne_true_of_eq_false h)

theorem takeFmtFrame_request_noPlace {s : State} {f : RxFrame} (haddr : s.isAddressed f.destination = false)
    (h : s.hasPlaces 1 = false) : s.takeFmtFrame .request f = s.discardFrame :=
  (if_neg (ne_true_of_eq_false haddr)).trans (if_neg (ne_true_of_eq_false h))

/-- The arrival of a frame on FMT IN: the link is UP, and a frame in receipt is lost (R1, R13). -/
theorem frameArrives_receiver (s : State) :
    s.frameArrives =
      if s.link.receiver.isSome then (s.symbolArrives.setReceiver none).discardFrame
      else s.symbolArrives.setReceiver none := by
  rw [frameArrives_eq]
  split
  · rfl
  · have hnone : s.symbolArrives.link.receiver = none := Option.not_isSome_iff_eq_none.mp ‹_›
    rw [State.setReceiver, State.onLink, ← hnone]

theorem headFrameArrives_receiver (s : State) :
    s.headFrameArrives =
      if s.link.headReceiver.isSome then (s.setHeadReceiver none).discardFrame else s.setHeadReceiver none := by
  unfold State.headFrameArrives
  split
  · rfl
  · have hnone : s.link.headReceiver = none := Option.not_isSome_iff_eq_none.mp ‹_›
    rw [State.setHeadReceiver, State.onLink, ← hnone]

/-- Settles O24. -/
theorem framesWithoutAPlaceAreDiscarded : Obligations.FramesWithoutAPlaceAreDiscarded := by
  refine ⟨fun bs i => ⟨List.getD_eq_getElem?_getD, leField_two bs i, leField_four bs i⟩, fun v => signed16_eq,
    ⟨rfl, crc16_append, by decide +kernel⟩, rfl, fun _ _ _ => rfl, fun k f => ?_,
    fun bytes k f => ⟨acceptedFrame_lane fmtKind_iff bytes k f, acceptedFrame_lane headKind_iff bytes k f⟩,
    fun s hr => ⟨frameArrives_receiver s, headFrameArrives_receiver s, fun f h => ?_, fun f h => ?_, fun f h => ?_,
      fun f h => ?_, fun f h => ?_, fun f h => ?_, fun f h => ?_, fun bytes h => ?_, fun bytes h => ?_⟩⟩
  · rw [accepted_iff]
    refine and_congr_right fun _ => and_congr_right fun _ => and_congr_right fun _ => ?_
    cases k with
    | swathOpen => exact lengthAgrees_swathOpen f.payload
    | fire => exact lengthAgrees_fire f.payload
    | swathClose | request | reply | notice | headStatus => exact decide_eq_true_iff
  · rw [exec_swathOpen hr, receiveFmt_discards h fun hfull =>
      takeFmtFrame_swathOpen_noPlace (frameArrives_hasNoPlaces (by omega)) f]
    rfl
  · rw [exec_fire hr, receiveFmt_discards h fun hfull =>
      takeFmtFrame_fire_noPlace (frameArrives_hasNoPlaces (by omega)) f]
    rfl
  · rw [exec_swathClose hr, receiveFmt_discards h fun hfull =>
      takeFmtFrame_swathClose_noPlace (frameArrives_hasNoPlaces (by omega)) f]
    rfl
  · rw [exec_requestFrame hr, receiveFmt_discards h fun ⟨haddr, hfull⟩ =>
      takeFmtFrame_request_noPlace ((frameArrives_isAddressed s _).trans haddr) (frameArrives_hasNoPlaces (by omega))]
    rfl
  · rw [exec_headStatus hr, receiveHead_rejected h]
    rfl
  · rw [exec_passThroughFrame hr, passFrameKind, receiveHead_rejected h]
    rfl
  · rw [exec_passThroughFrame hr, passFrameKind, receiveHead_rejected h]
    rfl
  · exact exec_discardedFrame hr (d := .headFrame bytes) (Option.isNone_iff_eq_none.mpr h)
  · exact exec_discardedFrame hr (d := .fmtFrame bytes) (Option.isNone_iff_eq_none.mpr h)

end Sys2Proof.Machine
end

section
/-! PROOFS. O39: validity of the compensation curve, and the factor at a temperature: between the curve's factors, a point's at a
point, and interpolated between two (R49 to R51). -/

namespace Sys2Proof.Machine

/-! ### Validity -/

/-- A curve is valid exactly if its temperatures are strictly increasing (R49). -/
theorem curveValid_iff_strictMono (curve : Vector CurvePoint 8) :
    curveValid curve = true ↔ StrictMono fun k : Fin 8 => curve[k].temperature := by
  simp [curveValid, Fin.strictMono_iff_lt_succ]

/-! ### One segment -/

/-- A weighted mean, rounded toward zero from the first of two values, lies in every range that holds both. -/
theorem add_tdiv_mem_range {x y p d low high : Int} (hd : 0 < d) (hp : 0 ≤ p) (hpd : p ≤ d) (hx : low ≤ x ∧ x ≤ high)
    (hy : low ≤ y ∧ y ≤ high) : low ≤ x + ((y - x) * p).tdiv d ∧ x + ((y - x) * p).tdiv d ≤ high := by
  obtain ⟨hlx, hxh⟩ := hx
  obtain ⟨hly, hyh⟩ := hy
  have hlow : low - x ≤ ((y - x) * p).tdiv d :=
    calc low - x = ((low - x) * d).tdiv d := (Int.mul_tdiv_cancel _ hd.ne').symm
      _ ≤ _ := Int.tdiv_le_tdiv hd (by nlinarith only [hlx, hly, hp, hpd])
  have hhigh : ((y - x) * p).tdiv d ≤ high - x :=
    calc ((y - x) * p).tdiv d ≤ ((high - x) * d).tdiv d := Int.tdiv_le_tdiv hd (by nlinarith only [hxh, hyh, hp, hpd])
      _ = _ := Int.mul_tdiv_cancel _ hd.ne'
  omega

/-- Between two points the interpolated factor lies in every range that holds both factors (R50). -/
theorem interpolate_mem_range {a b : CurvePoint} {t : Int} {low high : Nat} (ha : a.temperature ≤ t) (hb : t < b.temperature)
    (hfa : low ≤ a.factor ∧ a.factor ≤ high) (hfb : low ≤ b.factor ∧ b.factor ≤ high) :
    (low : Int) ≤ interpolate a b t ∧ interpolate a b t ≤ high :=
  add_tdiv_mem_range (by omega) (by omega) (by omega) (by omega) (by omega)

/-- At the first of two points the interpolated factor is that point's. -/
theorem interpolate_left (a b : CurvePoint) : interpolate a b a.temperature = a.factor := by
  simp [interpolate]

/-! ### Along the points -/

/-- From the first point on, the factor along the points lies in every range that holds all their factors. -/
theorem factorAlong_mem_range {low high : Nat} {t : Int} (a : CurvePoint) (l : List CurvePoint) (ha : a.temperature ≤ t)
    (hl : ∀ x ∈ a :: l, low ≤ x.factor ∧ x.factor ≤ high) :
    low ≤ factorAlong (a :: l) t ∧ factorAlong (a :: l) t ≤ high := by
  induction l generalizing a with
  | nil => exact hl a List.mem_cons_self
  | cons b l ih =>
    unfold factorAlong
    split
    · have := interpolate_mem_range ha ‹_› (hl a (by simp)) (hl b (by simp))
      omega
    · exact ih b (Int.not_lt.mp ‹_›) fun x hx => hl x (List.mem_cons_of_mem a hx)

/-- On points of increasing temperature the factor is that of the segment that the temperature lies in. -/
theorem factorAlong_segment {l : List CurvePoint} {t : Int} {k : Nat}
    (hl : l.Pairwise fun a b => a.temperature < b.temperature) (hk : k + 1 < l.length) (ha : l[k].temperature ≤ t)
    (hb : t < l[k + 1].temperature) : factorAlong l t = (interpolate l[k] l[k + 1] t).toNat := by
  induction l generalizing k with
  | nil => simp at hk
  | cons a l ih =>
    obtain _ | ⟨b, l⟩ := l
    · simp at hk
    · obtain _ | k := k
      · exact if_pos hb
      · have hle : b.temperature ≤ t := by
          refine le_trans ?_ ha
          obtain _ | k := k
          · exact le_refl _
          · exact ((List.pairwise_cons.mp hl.of_cons).1 _ (List.getElem_mem _)).le
        exact (if_neg (Int.not_lt.mpr hle)).trans (ih hl.of_cons (Nat.lt_of_succ_lt_succ hk) ha hb)

/-! ### The curve -/

/-- The factor lies in every range that holds the curve's factors, be the curve valid or not (R51). -/
theorem curveFactor_mem_range {curve : Vector CurvePoint 8} (t : Int) {low high : Nat}
    (h : ∀ k : Fin 8, low ≤ curve[k].factor ∧ curve[k].factor ≤ high) :
    low ≤ curveFactor curve t ∧ curveFactor curve t ≤ high := by
  unfold curveFactor
  split
  · exact h 0
  · split
    · exact h 7
    · rename_i h0 _
      obtain ⟨⟨l⟩, hl⟩ := curve
      obtain _ | ⟨a, l⟩ := l
      · simp at hl
      · refine factorAlong_mem_range a l (Int.not_le.mp h0).le fun x hx => ?_
        obtain ⟨i, hi, rfl⟩ := List.mem_iff_getElem.mp hx
        exact h ⟨i, hl ▸ hi⟩

/-- At or below the first temperature the factor is the first point's (R50). -/
theorem curveFactor_of_le_first {curve : Vector CurvePoint 8} {t : Int} (h : t ≤ curve[0].temperature) :
    curveFactor curve t = curve[0].factor := if_pos h

/-- At or beyond the last temperature of a valid curve the factor is the last point's (R50). -/
theorem curveFactor_of_last_le {curve : Vector CurvePoint 8} {t : Int} (hv : curveValid curve = true)
    (h : curve[7].temperature ≤ t) : curveFactor curve t = curve[7].factor := by
  have h07 : curve[0].temperature < curve[7].temperature :=
    (curveValid_iff_strictMono curve).mp hv (show (0 : Fin 8) < 7 by decide)
  unfold curveFactor
  rw [if_neg (by omega), if_pos h]

/-- Between two neighbouring points of a valid curve the factor is interpolated (R50). -/
theorem curveFactor_segment {curve : Vector CurvePoint 8} {t : Int} (hv : curveValid curve = true) {k m : Fin 8}
    (hkm : k.val + 1 = m.val) (ha : curve[k].temperature ≤ t) (hb : t < curve[m].temperature) :
    (curveFactor curve t : Int) = interpolate curve[k] curve[m] t := by
  have hmono := (curveValid_iff_strictMono curve).mp hv
  have h7 : curve[m].temperature ≤ curve[7].temperature := hmono.monotone (show m ≤ 7 from Fin.le_last m)
  unfold curveFactor
  split
  · -- only at the first point is a temperature at or below the first and not below another
    rename_i h0
    have hk0 : k = 0 := by
      by_contra hne
      have : curve[0].temperature < curve[k].temperature := hmono (Fin.pos_of_ne_zero hne)
      omega
    subst hk0
    rw [le_antisymm h0 ha]
    exact (interpolate_left _ _).symm
  · have hsorted : curve.toList.Pairwise fun a b => a.temperature < b.temperature := by
      refine List.pairwise_iff_getElem.mpr fun i j hi hj hij => ?_
      simp only [Vector.length_toList] at hi hj
      simpa using hmono (show (⟨i, hi⟩ : Fin 8) < ⟨j, hj⟩ from hij)
    have hrange := interpolate_mem_range (low := 0) (high := max curve[k].factor curve[m].factor) ha hb (by omega) (by omega)
    have hlen : k.val + 1 < curve.toList.length := by simp [hkm]
    rw [if_neg (by omega), factorAlong_segment hsorted hlen (by simpa using ha) (by simpa [hkm] using hb)]
    simpa [hkm] using hrange.1

/-- At a point of a valid curve the factor is the point's (R50). -/
theorem curveFactor_point {curve : Vector CurvePoint 8} (hv : curveValid curve = true) (k : Fin 8) :
    curveFactor curve curve[k].temperature = curve[k].factor := by
  by_cases hk : k = 7
  · subst hk
    exact curveFactor_of_last_le hv (le_refl _)
  · have hlt : k.val + 1 < 8 := by omega
    have hnext : curve[k].temperature < curve[(⟨k.val + 1, hlt⟩ : Fin 8)].temperature :=
      (curveValid_iff_strictMono curve).mp hv (Fin.lt_def.mpr (Nat.lt_succ_self k.val))
    exact Int.ofNat.inj ((curveFactor_segment hv rfl (le_refl _) hnext).trans (interpolate_left _ _))

/-- Settles O39. -/
theorem factorLiesBetweenTheCurvesFactors : Obligations.FactorLiesBetweenTheCurvesFactors := by
  refine ⟨fun curve => ?_, fun curve t hv => ⟨fun low high h => curveFactor_mem_range t h, ?_,
    curveFactor_of_le_first, curveFactor_of_last_le hv, fun k m hkm ha hb => curveFactor_segment hv hkm ha hb⟩⟩
  · rw [curveValid_iff_strictMono]
    constructor
    · exact fun h k m hkm => h (Fin.lt_def.mpr (by omega))
    · exact fun h => Fin.strictMono_iff_lt_succ.mpr fun i => h i.castSucc i.succ rfl
  · rintro k rfl
    exact curveFactor_point hv k

end Sys2Proof.Machine
end

section
/-! PROOFS. What a command can do to the Swath Path, the account, the list and the tables, said once: a property that looks at these
alone, and that each change of them keeps (`Kept`), is kept by every command. -/

namespace Sys2Proof.Machine

/-! ### What such a property looks at -/

/-- The staging copies of a Request Decoder. -/
structure Decoder.Copies where
  drop : Staging (Vector Nat 12)
  curve : Staging (Vector CurvePoint 8)
  lanes : Staging (Vector (Option Slot) 32)
  thin : Staging (Vector (BitVec 2) 16)
  policy : Staging (Vector Action 9)

def Decoder.copies (d : Decoder) : Decoder.Copies := ⟨d.dropCopy, d.curveCopy, d.laneCopy, d.thinCopy, d.policyCopy⟩

/-- The Swath Path, the account, the list, the tables and their staging copies. -/
structure State.Inner where
  swath : SwathPath
  residue : Vector Nat 12
  slots : Vector SlotRecord 12
  known : List Entry
  tables : Tables
  copies : Decoder.Copies

def State.inner (s : State) : State.Inner := ⟨s.swath, s.residue, s.slots, s.known, s.tables, s.decoder.copies⟩

/-- A property that looks at `State.inner` alone and is kept by each change that a command makes there: the primitive changes of the
supply blocks, the frames of the Swath Path, the loads and locks of tables, and reset and start-up. -/
structure Kept (p : State → Prop) : Prop where
  inner : ∀ s t : State, p s → t.inner = s.inner → p t
  move : ∀ s t : State, Move s t → p s → p t
  marked : ∀ (s : State) (b : Bool), p s → p (s.onSwath fun w => { w with refused := b })
  closed : ∀ s : State, p s → p (s.onSwath fun w => { w with descriptor := none })
  opened : ∀ (s : State) (payload : List Byte), p s → p (s.promote.recordOpening payload)
  fired : ∀ (s : State) (f : RxFrame), p s → p (s.takeFire f)
  loaded : ∀ (s t : State) (table : TableId) (first written : Nat) (final : Bool) (bs : List Byte),
    s.loadEntries table first written final bs = some t → p s → p t
  locked : ∀ (s : State) (table : TableId) (locks : Locks), p s → p (s.addLock table locks)
  reset : ∀ (s : State) (cause : ResetCause), p s → p (s.assertReset cause)
  started : ∀ (s : State) (straps : BitVec 4), p (s.loaded straps)

/-! ### What leaves all of that -/

theorem raise_inner (s : State) (k : EventKind) (i : Nat) (d : Word) : (s.raise k i d).inner = s.inner := rfl

theorem forward_inner (s : State) (fs : List Frame) : (s.forward fs).inner = s.inner := rfl

theorem setPark_inner (s : State) (park : Park) : (s.setPark park).inner = s.inner := rfl

theorem startSave_inner (s : State) : s.startSave.inner = s.inner := rfl

theorem sendNext_inner (s : State) : s.sendNext.inner = s.inner := by simp [State.inner]

theorem beginUp_inner (s : State) : s.beginUp.inner = s.inner := by simp [State.inner]

theorem takeOne_inner (s : State) : s.takeOne.inner = s.inner := by simp [State.inner]

theorem frameArrives_inner (s : State) : s.frameArrives.inner = s.inner := by
  unfold State.frameArrives
  dsimp only
  split <;> rfl

theorem headFrameArrives_inner (s : State) : s.headFrameArrives.inner = s.inner := by
  unfold State.headFrameArrives
  split <;> rfl

theorem queueRequest_inner (s : State) (r : Request) : (s.queueRequest r).inner = s.inner := by
  unfold State.queueRequest
  split <;> rfl

theorem takeRequestFrame_inner (s : State) (f : RxFrame) : (s.takeRequestFrame f).inner = s.inner := by
  unfold State.takeRequestFrame
  split
  · exact queueRequest_inner s _
  · split <;> rfl

theorem takeHeadFrame_inner (s : State) (k : FrameKind) (f : RxFrame) : (s.takeHeadFrame k f).inner = s.inner := by
  unfold State.takeHeadFrame State.readStatus
  split
  · split
    · split <;> rfl
    · rfl
  · rfl

theorem receiveHead_inner (s : State) (k : FrameKind) (f : RxFrame) : (s.receiveHead k f).inner = s.inner := by
  refine Eq.trans ?_ (headFrameArrives_inner s)
  unfold State.receiveHead
  dsimp only
  split
  · exact takeHeadFrame_inner _ k f
  · rfl

theorem receiveHeadSymbol_inner (s : State) (x : Symbol) : (s.receiveHeadSymbol x).inner = s.inner := by
  unfold State.receiveHeadSymbol
  dsimp only
  split
  · rfl
  · rfl
  · split
    · exact takeHeadFrame_inner _ _ _
    · rfl

theorem receiveDiscarded_inner (s : State) (d : Discarded) : (s.receiveDiscarded d).inner = s.inner := by
  cases d with
  | headSymbol x => exact receiveHeadSymbol_inner s x
  | headFrame _ => exact headFrameArrives_inner s
  | fmtFrame _ => exact frameArrives_inner s

theorem strayFire_inner (s : State) : s.strayFire.inner = s.inner := by
  unfold State.strayFire
  split <;> rfl

theorem parkOnSave_inner (s : State) : s.parkOnSave.inner = s.inner := by
  unfold State.parkOnSave
  split <;> rfl

theorem reportSection_inner {α : Type} (s : State) (v : Verdict α) (i : Nat) : (s.reportSection v i).inner = s.inner := by
  cases v <;> rfl

/-! ### The ends of commands -/

section
variable {p : State → Prop} (hk : Kept p)
include hk

/-- What leaves all that the property looks at keeps it. -/
theorem Kept.beside {s t : State} (hs : p s) (h : t.inner = s.inner := by rfl) : p t := hk.inner s t hs h

theorem Kept.moves {s t : State} (h : Moves s t) (hs : p s) : p t := h.keeps hk.move hs

theorem Kept.foldl {α : Type} {g : State → α → State} (hg : ∀ s a, Moves s (g s a)) (l : List α) {s : State} (hs : p s) :
    p (l.foldl g s) := hk.moves (Moves.foldl hg l s) hs

theorem Kept.sendNext {s : State} (hs : p s) : p s.sendNext := hk.beside hs (sendNext_inner s)

theorem Kept.endStage1 {s : State} (hs : p s) : p s.endStage1 := by
  have hcopies : p (allSlots.foldl State.parkSlot s) := hk.foldl moves_parkSlot allSlots hs
  unfold State.endStage1 State.parkingCopies
  dsimp only
  split
  · split
    · exact hk.beside hcopies (setPark_inner _ _)
    · exact hk.beside hcopies ((setPark_inner _ _).trans (startSave_inner _))
  · exact hs

theorem Kept.finish {s : State} (hs : p s) : p s.finish :=
  finish_keeps (p := p) (fun u hu => hk.beside hu (takeOne_inner u)) (fun _ => hk.endStage1) (fun _ => hk.sendNext) s hs

/-! ### The Swath Path -/

theorem Kept.endSwath {s : State} (hs : p s) (d : Descriptor) : p (s.endSwath d) :=
  hk.closed _ (hk.moves (moves_handOver s d) hs)

theorem Kept.truncate {s : State} (hs : p s) : p s.truncate := by
  unfold State.truncate
  split
  · exact hk.beside (hk.endSwath hs _) (raise_inner _ _ _ _)
  · exact hs

theorem Kept.takeSwathOpen {s : State} (hs : p s) (f : RxFrame) : p (s.takeSwathOpen f) := by
  have htruncated : p (s.truncate.forward s.truncationFrames) := hk.beside (hk.truncate hs)
  unfold State.takeSwathOpen
  dsimp only
  split
  · exact hk.beside (hk.opened _ f.payload htruncated)
  · exact hk.marked _ true (hk.beside htruncated)

theorem Kept.takeSwathClose {s : State} (hs : p s) (f : RxFrame) : p (s.takeSwathClose f) := by
  unfold State.takeSwathClose
  split
  · exact hk.beside (hk.endSwath hs _) (forward_inner _ _)
  · exact hk.marked _ false (hk.beside hs (strayFire_inner s))

/-! ### Receipt on FMT IN -/

theorem Kept.takeFmtFrame {s : State} (hs : p s) (k : FrameKind) (f : RxFrame) : p (s.takeFmtFrame k f) := by
  have hdiscarded : p s.discardFrame := hk.beside hs
  have places {c : Prop} [Decidable c] {t : State} (h : p t) : p (if c then t else s.discardFrame) := by
    split
    · exact h
    · exact hdiscarded
  cases k with
  | swathOpen => exact places (hk.takeSwathOpen hs f)
  | fire => exact places (hk.fired s f hs)
  | swathClose => exact places (hk.takeSwathClose hs f)
  | request => exact hk.beside hs (takeRequestFrame_inner s f)
  | reply | notice | headStatus => exact hdiscarded

theorem Kept.receiveFmt {s : State} (hs : p s) (k : FrameKind) (f : RxFrame) : p (s.receiveFmt k f) := by
  have harrived : p s.frameArrives := hk.beside hs (frameArrives_inner s)
  unfold State.receiveFmt
  dsimp only
  split
  · exact hk.takeFmtFrame harrived k f
  · exact hk.beside harrived

theorem Kept.receiveSymbol {s : State} (hs : p s) (x : Symbol) : p (s.receiveSymbol x) := by
  unfold State.receiveSymbol
  dsimp only
  split
  · exact hk.beside hs
  · exact hk.beside hs
  · split
    · exact hk.takeFmtFrame (hk.beside hs) _ _
    · exact hk.beside hs

theorem Kept.emptyLink {s : State} (hs : p s) : p s.emptyLink := hk.beside (hk.truncate hs)

theorem Kept.loseLink {s : State} (hs : p s) : p s.loseLink := hk.beside (hk.emptyLink hs)

/-! ### The supply bus -/

theorem Kept.endTransaction {s : State} (hs : p s) (f : Flight) (outcome : BusOutcome) : p (s.endTransaction f outcome) :=
  hk.moves (moves_deliver _ f outcome) (hk.beside hs)

theorem Kept.stick {s : State} (hs : p s) : p s.stick := by
  have hfault : p s.enterFault := hk.beside hs
  unfold State.stick
  split
  · exact hk.endTransaction hfault _ _
  · exact hfault

/-! ### Start-up -/

theorem Kept.completeStart (s : State) (straps : BitVec 4) : p (s.completeStart straps) := by
  unfold State.completeStart
  dsimp only
  refine hk.sendNext (hk.foldl moves_startArrival allSlots ?_)
  refine hk.beside (hk.started s straps) ?_
  rw [reportSection_inner, reportSection_inner, reportSection_inner]
  rfl

end

/-! ### The forms of requests' arguments -/

section
variable {p : State → Prop} {s : State} (hs : p s) (args : List Byte)
include hs

theorem bare_keeps {act : State → State × Reply} (h : p (act s).1) : p (bare act s args).1 := by
  unfold bare
  split
  · exact h
  · exact hs

theorem bareOperation_keeps {act : State → State × Reply} (h : p (act s).1) : p (bareOperation act s args).1 := by
  unfold bareOperation
  split
  · exact h
  · exact hs

theorem slotArgument_keeps {act : State → Slot → State × Reply} (h : ∀ n, p (act s n).1) : p (slotArgument act s args).1 := by
  unfold slotArgument
  split
  · split
    · exact h _
    · exact hs
  · exact hs

end

/-! ### Requests -/

theorem readTable_state (s : State) (args : List Byte) : (s.readTable args).1 = s := by
  unfold State.readTable
  split
  · split
    · rfl
    · split
      · rfl
      · split <;> rfl
  · rfl

theorem queryKnown_state (s : State) (args : List Byte) : (s.queryKnown args).1 = s := by
  unfold State.queryKnown
  split
  · split <;> rfl
  · rfl

theorem eventsClear_inner (s : State) (args : List Byte) : (s.eventsClear args).1.inner = s.inner := by
  unfold State.eventsClear
  split
  · split <;> rfl
  · split
    · split <;> rfl
    · rfl
  · rfl

theorem eventsEnable_inner (s : State) (args : List Byte) : (s.eventsEnable args).1.inner = s.inner := by
  unfold State.eventsEnable
  split
  · split
    · split <;> rfl
    · rfl
  · rfl

theorem saveStore_inner (s : State) : s.saveStore.1.inner = s.inner := by
  unfold State.saveStore
  split <;> rfl

section
variable {p : State → Prop} (hk : Kept p)
include hk

theorem Kept.loadTable {s : State} (hs : p s) (args : List Byte) : p (s.loadTable args).1 := by
  unfold State.loadTable
  split
  · exact hs
  · split
    · exact hs
    · dsimp only
      split
      · exact hs
      · split
        · exact hs
        · split
          · exact hs
          · split
            · exact hk.loaded s _ _ _ _ _ _ ‹_› hs
            · exact hs

theorem Kept.lockTable {s : State} (hs : p s) (args : List Byte) : p (s.lockTable args).1 := by
  unfold State.lockTable
  split
  · split
    · exact hs
    · split
      · exact hs
      · split
        · exact hs
        · exact hk.locked s _ _ hs
  · exact hs

theorem Kept.eventsClear {s : State} (hs : p s) (args : List Byte) : p (s.eventsClear args).1 :=
  hk.beside hs (eventsClear_inner s args)

theorem Kept.eventsEnable {s : State} (hs : p s) (args : List Byte) : p (s.eventsEnable args).1 :=
  hk.beside hs (eventsEnable_inner s args)

theorem Kept.noticesOn {s : State} (hs : p s) (args : List Byte) : p (bareOperation State.noticesOn s args).1 :=
  bareOperation_keeps hs args (hk.beside hs)

theorem Kept.noticesOff {s : State} (hs : p s) (args : List Byte) : p (bareOperation State.noticesOff s args).1 :=
  bareOperation_keeps hs args (hk.beside hs)

theorem Kept.reauthenticate {s : State} (hs : p s) (n : Slot) : p (s.reauthenticate n).1 := by
  unfold State.reauthenticate
  split
  · exact hk.moves (moves_askChallenge s n) hs
  · exact hs

theorem Kept.commitSlot {s : State} (hs : p s) (n : Slot) : p (s.commitSlot n).1 := by
  unfold State.commitSlot
  split
  · exact hk.moves (moves_askCommit s _ n) hs
  · exact hs

theorem Kept.park {s : State} (hs : p s) : p s.park.1 := by
  unfold State.park
  split
  · exact hs
  · split
    · exact hs
    · split
      · exact hs
      · exact hs
      · dsimp only [queued]
        exact hk.foldl (fun t n => moves_askCommit t .request n) allSlots (hk.beside hs (setPark_inner s _))

theorem Kept.resume {s : State} (hs : p s) : p s.resume.1 := by
  unfold State.resume
  split
  · exact hs
  · exact hk.beside hs
  · dsimp only [done]
    exact hk.foldl moves_challengeProven allSlots (hk.beside hs (setPark_inner s _))

theorem Kept.actOnEvents {s : State} (hs : p s) (args : List Byte) : p (s.actOnEvents args).1 := by
  unfold State.actOnEvents
  split
  · exact hs
  · split
    · exact bareOperation_keeps hs args hs
    · exact hk.eventsClear hs args
    · exact hk.eventsEnable hs args
    · exact hk.noticesOn hs args
    · exact hk.noticesOff hs args
    · exact hs

/-- A request's act keeps the property, whatever its code and arguments. -/
theorem Kept.actOn (code : Byte) {s : State} (hs : p s) (args : List Byte) : p (s.actOn code args).1 := by
  unfold State.actOn
  split
  · exact hk.loadTable hs args
  · rwa [readTable_state]
  · exact hk.lockTable hs args
  · exact slotArgument_keeps hs args fun _ => hs
  · rwa [queryKnown_state]
  · exact bare_keeps hs args hs
  · exact hk.actOnEvents hs args
  · exact slotArgument_keeps hs args fun n => hk.reauthenticate hs n
  · exact slotArgument_keeps hs args fun n => hk.commitSlot hs n
  · exact bare_keeps hs args (hk.park hs)
  · exact bare_keeps hs args (hk.resume hs)
  · exact bare_keeps hs args (hk.beside hs (saveStore_inner s))
  · exact bare_keeps hs args (hk.emptyLink hs)
  · exact hs

theorem Kept.takeRequest {act : State → List Byte → State × Reply} (ha : ∀ s args, p s → p (act s args).1) {s : State}
    (hs : p s) (r : Request) : p (s.takeRequest r act) := by
  have hpopped : p s.popRequest := hk.beside hs
  rw [takeRequest_eq]
  exact hk.beside (ha _ r.args hpopped)

theorem Kept.serveOne {s : State} (hs : p s) : p s.serveOne := by
  rcases serveOne_cases s with ⟨_, h⟩ | ⟨r, _, h⟩ <;> rw [h]
  · exact hs
  · exact hk.finish (hk.takeRequest (fun _ args hu => hk.actOn r.code hu args) hs r)

theorem Kept.serve {s : State} (hs : p s) : p s.serve := serve_keeps (p := p) (fun _ => hk.serveOne) s hs

/-- A request's row keeps the property if its act does. -/
theorem Kept.take {s : State} (hs : p s) (front : Option Request) {act : State → List Byte → State × Reply}
    (ha : ∀ u args, p u → p (act u args).1) : p (s.take front act) :=
  take_keeps (p := p) (fun _ => hk.serveOne) s front act hs fun r _ => hk.finish (hk.takeRequest ha hs r)

/-! ### Every command -/

theorem Kept.exec (c : Instr) {s : State} (hs : p s) : Answers p (exec c s) := by
  have running {f : State → State} (h : p (f s)) : Answers p (.next (whenRunning f s)) :=
    answers_next (whenRunning_keeps hs fun _ => h)
  have either {b : Prop} [Decidable b] {t u : State} (ht : p t) (hu : p u) : p (if b then t else u) := by
    split
    · exact ht
    · exact hu
  cases c with
  | reset cause => exact answers_next (hk.reset s cause hs)
  | resetRelease => exact answers_next (either (hk.beside hs) hs)
  | startUp straps => exact answers_next (either (hk.completeStart s straps) hs)
  | linkSymbol x => exact running (hk.serve (hk.finish (hk.receiveSymbol (hk.beside hs) x)))
  | linkLoss => exact running (either (hk.finish (hk.loseLink hs)) hs)
  | swathOpen f | swathClose f => exact running (hk.finish (hk.receiveFmt hs _ f))
  | fire f => exact running (hk.sendNext (hk.receiveFmt hs _ f))
  | requestFrame f => exact running (hk.serve (hk.sendNext (hk.receiveFmt hs _ f)))
  | headStatus f | passThroughFrame k f =>
    exact running (hk.sendNext (hk.beside hs (receiveHead_inner s _ f)))
  | discardedFrame d => exact running (either (hk.sendNext (hk.beside hs (receiveDiscarded_inner s d))) hs)
  | downstreamSendEnd => exact running (either (hk.beside hs) hs)
  | upstreamSendEnd => exact running (either (hk.serve (hk.beside hs (beginUp_inner _))) hs)
  | tempStale h => exact running (either (hk.sendNext (hk.beside hs)) hs)
  | lineGoesPresent n =>
    have hline : p (s.setLine n true) := hk.beside hs
    exact answers_next (either hs (whenRunning_keeps hline fun _ => hk.sendNext (hk.moves (moves_linePresent _ n) hline)))
  | lineGoesAbsent n =>
    have hline : p (s.setLine n false) := hk.beside hs
    exact answers_next (either (whenRunning_keeps hline fun _ => hk.moves (moves_lineAbsent _ n) hline) hs)
  | seating n =>
    refine running ?_
    split
    · exact hk.finish (hk.moves (moves_seat s n) hs)
    · exact hs
  | removal n =>
    refine running ?_
    split
    · exact hk.finish (hk.moves (moves_remove s n) hs)
    · exact hs
  | transactionBegin => exact running (either (hk.finish hs) hs)
  | commandSent =>
    refine running ?_
    split
    · exact either (hk.beside hs) hs
    · exact hs
  | supplyReply bytes =>
    refine running ?_
    split
    · exact either (hk.finish (hk.endTransaction hs _ _)) hs
    · exact hs
  | responseTimeout =>
    refine running ?_
    split
    · exact hk.finish (hk.endTransaction hs _ _)
    · exact hs
  | busStuck => exact running (either (hk.sendNext (hk.endStage1 (hk.stick hs))) hs)
  | faultEnd => exact running (either (hk.finish (hk.beside hs)) hs)
  | busLineReleased =>
    exact answers_next (either (whenRunning_keeps (hk.beside hs) fun _ => hk.beside hs) hs)
  | busLinePulledLow =>
    exact answers_next (either hs (whenRunning_keeps (hk.beside hs) fun _ => hk.beside hs))
  | holdoffExpiry n => exact running (either (hk.finish (hk.moves (moves_endHoldoff s n) hs)) hs)
  | noticeHoldoffExpiry => exact running (either (hk.sendNext (hk.beside hs)) hs)
  | parkingCopies => exact running (hk.endStage1 hs)
  | sectionWritten => exact running (hk.beside hs)
  | saveComplete =>
    refine running ?_
    split
    · exact either (hk.sendNext (hk.beside hs (parkOnSave_inner _))) hs
    · exact hs
  | loadTable => exact running (hk.take hs _ fun _ args hu => hk.loadTable hu args)
  | readTable => exact running (hk.take hs _ fun u args hu => (readTable_state u args).symm ▸ hu)
  | lockTable => exact running (hk.take hs _ fun _ args hu => hk.lockTable hu args)
  | querySlot => exact running (hk.take hs _ fun _ args hu => slotArgument_keeps hu args fun _ => hu)
  | queryKnown => exact running (hk.take hs _ fun u args hu => (queryKnown_state u args).symm ▸ hu)
  | queryStatus => exact running (hk.take hs _ fun _ args hu => bare_keeps hu args hu)
  | eventsRead => exact running (hk.take hs _ fun _ args hu => bareOperation_keeps hu args hu)
  | eventsClear => exact running (hk.take hs _ fun _ args hu => hk.eventsClear hu args)
  | eventsEnable => exact running (hk.take hs _ fun _ args hu => hk.eventsEnable hu args)
  | noticesOn => exact running (hk.take hs _ fun _ args hu => hk.noticesOn hu args)
  | noticesOff => exact running (hk.take hs _ fun _ args hu => hk.noticesOff hu args)
  | reauthenticateSlot =>
    exact running (hk.take hs _ fun _ args hu => slotArgument_keeps hu args fun n => hk.reauthenticate hu n)
  | commitSlot => exact running (hk.take hs _ fun _ args hu => slotArgument_keeps hu args fun n => hk.commitSlot hu n)
  | park => exact running (hk.take hs _ fun _ args hu => bare_keeps hu args (hk.park hu))
  | resume => exact running (hk.take hs _ fun _ args hu => bare_keeps hu args (hk.resume hu))
  | saveStore => exact running (hk.take hs _ fun u args hu => bare_keeps hu args (hk.beside hu (saveStore_inner u)))
  | linkReset => exact running (hk.take hs _ fun _ args hu => bare_keeps hu args (hk.emptyLink hu))
  | unknownRequest =>
    refine running ?_
    split
    · exact hk.take hs _ fun _ _ hu => hu
    · exact hs

/-- One step runs one command, or idles. -/
theorem Kept.step {s t : State} (hs : p s) (h : step s = .next t) : p t := by
  unfold Machine.step at h
  split at h
  · exact hk.exec _ (hk.beside hs) t h
  · exact answers_next (p := p) hs t h

end

end Sys2Proof.Machine
end

section
/-! PROOFS. O13: the entries that a load or a section gives lie in their tables' ranges (R158, R159), the promoted copies do, of the
curves only a valid one is promoted (R162), and the factors of an opening lie in the range of the curve's and of the fallback factor
(R50, R51). -/

namespace Sys2Proof.Machine

/-! ### Entries written to a table -/

/-- An element that a list is mapped to is the image of the element at its place. -/
theorem exists_of_mapM_eq_some {α β : Type} {f : β → Option α} {l : List β} {xs : List α} (h : l.mapM f = some xs) (j : Nat)
    (hj : j < xs.length) : ∃ b, l[j]? = some b ∧ f b = some xs[j] := by
  induction l generalizing xs j with
  | nil =>
    cases h
    simp at hj
  | cons b l ih =>
    simp only [List.mapM_cons, Option.bind_eq_bind, Option.pure_def, Option.bind_eq_some_iff, Option.some.injEq] at h
    obtain ⟨x, hx, ys, hys, rfl⟩ := h
    cases j with
    | zero => exact ⟨b, rfl, hx⟩
    | succ j => exact ih hys j (Nat.lt_of_succ_lt_succ hj)

/-- The entries of a load have what their reading ensures at their indices (R159 step 4). -/
theorem parseEntries_holds {α : Type} {q : Nat → α → Prop} {parse : Nat → List Byte → Option α}
    (hq : ∀ i bs x, parse i bs = some x → q i x) {size first written : Nat} {bs : List Byte} {xs : List α}
    (h : parseEntries size first written parse bs = some xs) (j : Nat) (hj : j < xs.length) : q (first + j) xs[j] := by
  obtain ⟨i, hi, hx⟩ := exists_of_mapM_eq_some h j hj
  obtain ⟨_, hij⟩ := List.getElem?_eq_some_iff.mp hi
  rw [List.getElem_range] at hij
  subst hij
  exact hq _ _ _ hx

/-- What holds of the entries of a table and of those written over them holds of the table written. -/
theorem writeFrom_holds {α : Type} {n : Nat} {q : Nat → α → Prop} {v : Vector α n} {first : Nat} {xs : List α}
    (hv : ∀ i : Fin n, q i.val v[i]) (hx : ∀ (j : Nat) (hj : j < xs.length), q (first + j) xs[j]) (i : Fin n) :
    q i.val (writeFrom v first xs)[i] := by
  simp only [writeFrom, Fin.getElem_fin, Vector.getElem_ofFn]
  split
  · rename_i hi
    by_cases hj : i.val - first < xs.length
    · rw [List.getD_eq_getElem _ _ hj]
      have := hx _ hj
      rwa [Nat.add_sub_cancel' hi] at this
    · rw [List.getD_eq_default _ _ (Nat.not_lt.mp hj)]
      exact hv i
  · exact hv i

/-- A load keeps what its entries' reading ensures. -/
theorem load_holds {α : Type} {n : Nat} {q : Nat → α → Prop} {parse : Nat → List Byte → Option α}
    (hq : ∀ i bs x, parse i bs = some x → q i x) {v : Vector α n} (hv : ∀ i : Fin n, q i.val v[i]) {size first written : Nat}
    {bs : List Byte} {xs : List α} (h : parseEntries size first written parse bs = some xs) (i : Fin n) :
    q i.val (writeFrom v first xs)[i] :=
  writeFrom_holds hv (parseEntries_holds hq h) i

/-- A table read from a section has at every index what its entries' reading ensures. -/
theorem parseTable_holds {α : Type} {n : Nat} {q : Nat → α → Prop} {parse : Nat → List Byte → Option α}
    (hq : ∀ i bs x, parse i bs = some x → q i x) {base : Vector α n} (hbase : ∀ i : Fin n, q i.val base[i]) {size offset : Nat}
    {bs : List Byte} {v : Vector α n} (h : parseTable base size offset parse bs = some v) (i : Fin n) : q i.val v[i] := by
  obtain ⟨xs, hxs, rfl⟩ := Option.map_eq_some_iff.mp h
  exact load_holds hq hbase hxs i

/-! ### What reading an entry ensures (R158) -/

/-- A point of the curve lies in its ranges (R49). -/
def CurvePoint.inRange (c : CurvePoint) : Prop :=
  -80 ≤ c.temperature ∧ c.temperature ≤ 300 ∧ 256 ≤ c.factor ∧ c.factor ≤ 2047

/-- A class entry's ceiling and marks lie in their ranges (R158, table 6). -/
def ClassEntry.inRange (c : ClassEntry) : Prop :=
  c.ceiling ≤ 4294967295 ∧ c.low ≤ 1000 ∧ c.reserve ≤ c.low

theorem parseDrop_le (i : Nat) (bs : List Byte) (v : Nat) (h : parseDrop i bs = some v) : v ≤ 4095 := by
  obtain ⟨hv, hsome⟩ := Option.ite_none_right_eq_some.mp h
  cases hsome
  exact hv

theorem parsePoint_inRange (i : Nat) (bs : List Byte) (c : CurvePoint) (h : parsePoint i bs = some c) : c.inRange := by
  obtain ⟨hc, hsome⟩ := Option.ite_none_right_eq_some.mp h
  cases hsome
  exact hc

theorem parseThin_le (i : Nat) (bs : List Byte) (c : BitVec 2) (h : parseThin i bs = some c) : c.toNat ≤ i % 4 := by
  obtain ⟨hc, hsome⟩ := Option.ite_none_right_eq_some.mp h
  cases hsome
  exact (Nat.mod_le _ _).trans hc

theorem parseClass_inRange (i : Nat) (bs : List Byte) (c : ClassEntry) (h : parseClass i bs = some c) : c.inRange := by
  obtain ⟨⟨_, _, hlow, hreserve⟩, hsome⟩ := Option.ite_none_right_eq_some.mp h
  cases hsome
  refine ⟨?_, hlow, hreserve⟩
  simp only [classOfBytes, leField_four]
  omega

theorem parseSetting_inRange (i : Nat) (bs : List Byte) (v : Nat) (h : parseSetting i bs = some v) :
    settingInRange i v = true := by
  obtain ⟨hv, hsome⟩ := Option.ite_none_right_eq_some.mp h
  cases hsome
  exact hv

/-! ### Start-up -/

/-- CONFIG's classes and settings lie in their ranges, and its settings agree. -/
def ConfigImage.inRange (c : ConfigImage) : Prop :=
  (∀ i : Fin 24, settingInRange i.val c.settings[i] = true) ∧ settingsAgree c.settings = true
    ∧ ∀ k : Fin 16, (c.classes[k]).inRange

theorem defaultConfig_inRange : (configImage defaultTables).inRange := by
  obtain ⟨_, _, _, _, hsettings, hagree, hclasses⟩ := defaultTables_sound
  exact ⟨hsettings, hagree, hclasses⟩

theorem parseConfig_inRange {bs : List Byte} {c : ConfigImage} (h : parseConfig bs = some c) : c.inRange := by
  obtain ⟨hsettings, _, hclasses⟩ := defaultConfig_inRange
  obtain ⟨_, h⟩ := Option.ite_none_right_eq_some.mp h
  split at h
  · obtain ⟨hagree, hsome⟩ := Option.ite_none_right_eq_some.mp h
    cases hsome
    exact ⟨parseTable_holds parseSetting_inRange hsettings ‹_›, hagree,
      parseTable_holds (q := fun _ => ClassEntry.inRange) parseClass_inRange hclasses ‹_›⟩
  · cases h

/-- What holds of all that a section's bytes can be read as, and of the defaults, holds of what the section loads (R181). -/
theorem judge_contents_holds {α : Type} {q : α → Prop} {parse : List Byte → Option α} {defaults : α}
    (hparse : ∀ {bs c}, parse bs = some c → q c) (hdefaults : q defaults) (v : Section) :
    q ((v.judge parse).contents defaults) := by
  have hmeaning := judge_meaning parse v
  cases hv : v.judge parse with
  | loaded c =>
    rw [hv] at hmeaning
    exact hparse hmeaning.2
  | corrected c =>
    rw [hv] at hmeaning
    obtain ⟨_, ⟨_, _, _, hc⟩ | ⟨hc, _⟩⟩ := hmeaning
    · exact hparse hc
    · exact hparse hc
  | lost => exact hdefaults

/-- Start-up loads tables in range, whatever the store holds. -/
theorem loadedTables_sound (t : Store) : t.loadedTables.sound := by
  obtain ⟨hvalid, hcurve, hthin, hdrop, _, _, _⟩ := defaultTables_sound
  obtain ⟨hsettings, hagree, hclasses⟩ := judge_contents_holds parseConfig_inRange defaultConfig_inRange t.config
  exact ⟨hvalid, hcurve, hthin, hdrop, hsettings, hagree, hclasses⟩

/-! ### Staging and promotion -/

/-- A load keeps in range the copy that it makes or changes (R161). -/
theorem stageLoad_holds {α : Type} {n : Nat} {q : Nat → α → Prop} {parse : Nat → List Byte → Option α}
    (hq : ∀ i bs x, parse i bs = some x → q i x) {copy : Staging (Vector α n)} {active : Vector α n}
    (hcopy : copy.Holds fun v => ∀ i : Fin n, q i.val v[i]) (hactive : ∀ i : Fin n, q i.val active[i]) {size first written : Nat}
    {bs : List Byte} {xs : List α} (h : parseEntries size first written parse bs = some xs) (final : Bool) :
    (stageLoad copy active first xs final).Holds fun v => ∀ i : Fin n, q i.val v[i] := by
  unfold stageLoad
  cases copy <;> cases final
  case none.false | none.true => exact load_holds hq hactive h
  all_goals exact load_holds hq hcopy h

theorem promoted_holds {α : Type} {q : α → Prop} {copy : Staging α} {active : α} (hcopy : copy.Holds q) (hactive : q active) :
    q (promoted copy active) := by
  cases copy with
  | ready c => exact hcopy
  | none | opened c => exact hactive

theorem afterOpening_holds {α : Type} {q : α → Prop} {copy : Staging α} (hcopy : copy.Holds q) : copy.afterOpening.Holds q := by
  cases copy with
  | ready c => trivial
  | none | opened c => exact hcopy

/-- A staged curve that is not rejected is valid (R162). -/
theorem promoted_curveValid {copy : Staging (Vector CurvePoint 8)} {active : Vector CurvePoint 8}
    (hcopy : curveRejected copy ≠ true) (hactive : curveValid active = true) : curveValid (promoted copy active) = true := by
  cases copy with
  | ready c => simpa [curveRejected, promoted] using hcopy
  | none | opened c => exact hactive

theorem promote_tables (s : State) :
    s.promote.tables =
      { s.tables with
        drop := promoted s.decoder.dropCopy s.tables.drop
        curve :=
          if curveRejected s.decoder.curveCopy then s.tables.curve else promoted s.decoder.curveCopy s.tables.curve
        lanes := promoted s.decoder.laneCopy s.tables.lanes
        thin := promoted s.decoder.thinCopy s.tables.thin
        policy := promoted s.decoder.policyCopy s.tables.policy } := by
  unfold State.promote
  dsimp only
  split <;> rfl

theorem promote_decoder (s : State) :
    s.promote.decoder =
      { s.decoder with
        dropCopy := s.decoder.dropCopy.afterOpening
        curveCopy := s.decoder.curveCopy.afterOpening
        laneCopy := s.decoder.laneCopy.afterOpening
        thinCopy := s.decoder.thinCopy.afterOpening
        policyCopy := s.decoder.policyCopy.afterOpening } := by
  unfold State.promote
  dsimp only
  split <;> rfl

theorem promote_tables_sound {s : State} (ht : s.tables.sound) (hc : s.decoder.copiesSound) : s.promote.tables.sound := by
  obtain ⟨hvalid, hcurve, hthin, hdrop, hsettings⟩ := ht
  obtain ⟨hcurveCopy, hthinCopy, hdropCopy⟩ := hc
  rw [promote_tables]
  refine ⟨?_, ?_, promoted_holds hthinCopy hthin, promoted_holds hdropCopy hdrop, hsettings⟩
  · dsimp only
    split
    · exact hvalid
    · exact promoted_curveValid ‹_› hvalid
  · dsimp only
    split
    · exact hcurve
    · exact promoted_holds hcurveCopy hcurve

theorem promote_copiesSound {s : State} (hc : s.decoder.copiesSound) : s.promote.decoder.copiesSound := by
  obtain ⟨hcurveCopy, hthinCopy, hdropCopy⟩ := hc
  rw [promote_decoder]
  exact ⟨afterOpening_holds hcurveCopy, afterOpening_holds hthinCopy, afterOpening_holds hdropCopy⟩

/-! ### The factors of an opening -/

/-- The factor at an opening lies in 256 to 2,047: the fallback factor by its setting's range, the curve's by its points' (R51). -/
theorem factorAtOpen_inRange {t : Tables} (ht : t.sound) (h : HeadRecord) :
    256 ≤ factorAtOpen t h ∧ factorAtOpen t h ≤ 2047 := by
  obtain ⟨_, hcurve, _, _, hsettings, _⟩ := ht
  unfold factorAtOpen
  split
  · simpa [settingInRange, settingRange, Tables.fallbackFactor] using hsettings 18
  · refine curveFactor_mem_range _ fun k => ?_
    obtain ⟨_, _, hlow, hhigh⟩ := hcurve k
    exact ⟨hlow, hhigh⟩

theorem headUse_factor {t : Tables} {heads : Vector HeadRecord 4} {entries : List (Nat × Nat)} {h : Head} {u : HeadUse}
    (hu : headUse t heads entries h = some u) : u.factor = factorAtOpen t heads[h] := by
  unfold headUse at hu
  split at hu
  · split at hu
    · cases hu
      rfl
    · cases hu
  · cases hu

theorem recordOpening_factorsInRange {s : State} (ht : s.tables.sound) (payload : List Byte) :
    (s.recordOpening payload).factorsInRange := by
  intro d hd h u hu
  cases hd
  have hhead : headUse s.tables s.heads (openHeads payload) h = some u := by simpa [makeDescriptor] using hu
  rw [headUse_factor hhead]
  exact factorAtOpen_inRange ht _

/-! ### The descriptor -/

theorem Move.descriptor {s t : State} (m : Move s t) : t.swath.descriptor = s.swath.descriptor := by
  cases m with
  | swath w hd => exact hd
  | place n k =>
    obtain ⟨q, h⟩ := busPlace_eq s n k
    rw [h]
    rfl
  | unbind n =>
    obtain ⟨f, h⟩ := writeAccount_eq s n
    rw [h]
    rfl
  | _ => rfl

/-- A FIRE changes neither the descriptor nor the Request Decoder nor the tables. -/
theorem takeFire_leaves (s : State) (f : RxFrame) :
    (s.takeFire f).swath.descriptor = s.swath.descriptor ∧ (s.takeFire f).decoder = s.decoder
      ∧ (s.takeFire f).tables = s.tables := by
  have fired (t : State) (d : Descriptor) (u : HeadUse) (i : LaneIndex) (kept : Nat) :
      (t.fireKept f d u i kept).swath.descriptor = t.swath.descriptor ∧ (t.fireKept f d u i kept).decoder = t.decoder
        ∧ (t.fireKept f d u i kept).tables = t.tables := by
    unfold State.fireKept
    dsimp only
    split <;> split <;> exact ⟨rfl, rfl, rfl⟩
  unfold State.takeFire
  split
  · unfold State.strayFire
    split <;> exact ⟨rfl, rfl, rfl⟩
  · dsimp only
    split
    · split <;> exact ⟨rfl, rfl, rfl⟩
    · split
      · exact fired (s.raise _ _ _) _ _ _ _
      · exact fired s _ _ _ _

/-! ### Loads -/

theorem tablesSound_of_eq {s t : State} (hs : s.tablesSound) (ht : t.tables = s.tables)
    (hc : t.decoder.copies = s.decoder.copies) (hd : t.swath.descriptor = s.swath.descriptor) : t.tablesSound := by
  obtain ⟨htables, hcopies, hfactors⟩ := hs
  obtain ⟨hdrop, hcurve, _, hthin, _⟩ := Decoder.Copies.mk.inj hc
  refine ⟨ht ▸ htables, ?_, ?_⟩
  · unfold Decoder.copiesSound
    rwa [hdrop, hcurve, hthin]
  · unfold State.factorsInRange
    rwa [hd]

theorem Move.tablesSound {s t : State} (m : Move s t) (hs : s.tablesSound) : t.tablesSound :=
  tablesSound_of_eq hs m.moves.tables (by rw [m.moves.decoder]) m.descriptor

theorem Moves.tablesSound {s t : State} (h : Moves s t) (hs : s.tablesSound) : t.tablesSound :=
  h.keeps (fun _ _ m => m.tablesSound) hs

theorem Tables.sound.withClasses {t : Tables} (ht : t.sound) {v : Vector ClassEntry 16} (hv : ∀ k : Fin 16, (v[k]).inRange) :
    ({ t with classes := v } : Tables).sound := by
  obtain ⟨hvalid, hcurve, hthin, hdrop, hsettings, hagree, _⟩ := ht
  exact ⟨hvalid, hcurve, hthin, hdrop, hsettings, hagree, hv⟩

theorem Tables.sound.withSettings {t : Tables} (ht : t.sound) {v : Vector Nat 24}
    (hv : ∀ i : Fin 24, settingInRange i.val v[i] = true) (hagree : settingsAgree v = true) :
    ({ t with settings := v } : Tables).sound := by
  obtain ⟨hvalid, hcurve, hthin, hdrop, _, _, hclasses⟩ := ht
  exact ⟨hvalid, hcurve, hthin, hdrop, hv, hagree, hclasses⟩

theorem foldl_tablesSound {α : Type} {g : State → α → State} (hg : ∀ s a, Moves s (g s a)) (l : List α) {s : State}
    (hs : s.tablesSound) : (l.foldl g s).tablesSound := (Moves.foldl hg l s).tablesSound hs

theorem onTables_tablesSound {s : State} (hs : s.tablesSound) {f : Tables → Tables} (h : (f s.tables).sound) :
    (s.onTables f).tablesSound := by
  obtain ⟨_, hcopies, hfactors⟩ := hs
  exact ⟨h, hcopies, hfactors⟩

theorem onDecoder_tablesSound {s : State} (hs : s.tablesSound) {f : Decoder → Decoder} (h : (f s.decoder).copiesSound) :
    (s.onDecoder f).tablesSound := by
  obtain ⟨htables, _, hfactors⟩ := hs
  exact ⟨htables, h, hfactors⟩

/-- A load of a table keeps tables and copies in range (R159 to R161). -/
theorem loadEntries_tablesSound {s t : State} {table : TableId} {first written : Nat} {final : Bool} {bs : List Byte}
    (h : s.loadEntries table first written final bs = some t) (hs : s.tablesSound) : t.tablesSound := by
  have ⟨htables, ⟨hcurveCopy, hthinCopy, hdropCopy⟩, _⟩ := hs
  have ⟨_, hcurve, hthin, hdrop, hsettings, _, hclasses⟩ := htables
  cases table <;> simp only [State.loadEntries, Option.map_eq_some_iff, Option.bind_eq_some_iff] at h <;>
    obtain ⟨xs, hxs, h⟩ := h
  case drop =>
    rw [← h]
    have hloaded := stageLoad_holds (q := fun _ v => v ≤ 4095) parseDrop_le hdropCopy hdrop hxs final
    exact onDecoder_tablesSound hs ⟨hcurveCopy, hthinCopy, hloaded⟩
  case curve =>
    rw [← h]
    have hloaded := stageLoad_holds (q := fun _ => CurvePoint.inRange) parsePoint_inRange hcurveCopy hcurve hxs final
    exact onDecoder_tablesSound hs ⟨hloaded, hthinCopy, hdropCopy⟩
  case thin =>
    rw [← h]
    have hloaded := stageLoad_holds (q := fun i (c : BitVec 2) => c.toNat ≤ i % 4) parseThin_le hthinCopy hthin hxs final
    exact onDecoder_tablesSound hs ⟨hcurveCopy, hloaded, hdropCopy⟩
  case lanes | policy =>
    rw [← h]
    exact onDecoder_tablesSound hs ⟨hcurveCopy, hthinCopy, hdropCopy⟩
  case keys =>
    rw [← h]
    exact onTables_tablesSound hs htables
  case sockets =>
    rw [← h]
    exact foldl_tablesSound (moves_socketLoaded _) _ (onTables_tablesSound hs htables)
  case classes =>
    obtain ⟨_, h⟩ := Option.ite_none_right_eq_some.mp h
    rw [← Option.some.inj h]
    have hloaded := load_holds (q := fun _ => ClassEntry.inRange) parseClass_inRange hclasses hxs
    exact foldl_tablesSound (moves_classLoaded first written) _ (onTables_tablesSound hs (htables.withClasses hloaded))
  case settings =>
    obtain ⟨hagree, h⟩ := Option.ite_none_right_eq_some.mp h
    rw [← Option.some.inj h]
    have hloaded := load_holds parseSetting_inRange hsettings hxs
    exact (moves_settingsLoaded _).tablesSound (onTables_tablesSound hs (htables.withSettings hloaded hagree))

/-! ### Every step -/

/-- Every change that a command makes keeps tables, copies and factors in range. -/
theorem tablesSound_kept : Kept State.tablesSound where
  inner s t hs h := by
    obtain ⟨hswath, _, _, _, htables, hcopies⟩ := State.Inner.mk.inj h
    exact tablesSound_of_eq hs htables hcopies (by rw [hswath])
  move _ _ m := m.tablesSound
  marked _ _ hs := tablesSound_of_eq hs rfl rfl rfl
  closed _ hs := by
    obtain ⟨htables, hcopies, _⟩ := hs
    exact ⟨htables, hcopies, nofun⟩
  opened s payload hs := by
    obtain ⟨htables, hcopies, _⟩ := hs
    have hpromoted := promote_tables_sound htables hcopies
    exact ⟨hpromoted, promote_copiesSound hcopies, recordOpening_factorsInRange hpromoted payload⟩
  fired s f hs := by
    obtain ⟨hd, hdecoder, htables⟩ := takeFire_leaves s f
    exact tablesSound_of_eq hs htables (by rw [hdecoder]) hd
  loaded _ _ _ _ _ _ _ h hs := loadEntries_tablesSound h hs
  locked _ _ _ hs := by
    obtain ⟨htables, hcopies, hfactors⟩ := hs
    unfold State.addLock
    dsimp only
    split <;> exact ⟨htables, hcopies, hfactors⟩
  reset _ _ hs := by
    obtain ⟨htables, hcopies, _⟩ := hs
    exact ⟨htables, hcopies, nofun⟩
  started s _ := ⟨loadedTables_sound s.store, ⟨trivial, trivial, trivial⟩, nofun⟩

/-- Settles O13: every change that a command makes keeps the tables, the copies and the factors in range. -/
theorem tablesAndFactorsStayInRange : Obligations.TablesAndFactorsStayInRange :=
  fun _ _ hs h => tablesSound_kept.step hs h

end Sys2Proof.Machine
end

section
/-! PROOFS. O9: every primitive change keeps residues and pending debits in range (R56, R58, R59). What a load, a FIRE and a promotion
touch is said here for the invariants that follow too. -/

namespace Sys2Proof.Machine

/-! ### What a load does -/

/-- What LOAD TABLE can do: make or change a staging copy, or write a direct table and run the effects of its load (R160, R161). -/
inductive Loads (s : State) (first written : Nat) : State → Prop
  | staged (f : Decoder → Decoder) : Loads s first written (s.onDecoder f)
  | classes (xs : List ClassEntry) (h : xs.length ≤ written) :
      Loads s first written (allSlots.foldl (State.classLoaded first written)
        (s.onTables fun t => { t with classes := writeFrom s.tables.classes first xs }))
  | keys (f : Vector Key 8 → Vector Key 8) : Loads s first written (s.onTables fun t => { t with keys := f t.keys })
  | sockets (f : Vector SocketConfig 12 → Vector SocketConfig 12) :
      Loads s first written (allSlots.foldl (State.socketLoaded s.tables.sockets)
        (s.onTables fun t => { t with sockets := f t.sockets }))
  | settings (v : Vector Nat 24) : Loads s first written (s.onTables fun t => { t with settings := v }).settingsLoaded

theorem parseEntries_length_le {α : Type} {size first written : Nat} {parse : Nat → List Byte → Option α} {bs : List Byte}
    {xs : List α} (h : parseEntries size first written parse bs = some xs) : xs.length ≤ written := by
  by_contra hlt
  obtain ⟨i, hi, _⟩ := exists_of_mapM_eq_some h written (Nat.not_le.mp hlt)
  simp at hi

theorem loadEntries_loads {s t : State} {table : TableId} {first written : Nat} {final : Bool} {bs : List Byte}
    (h : s.loadEntries table first written final bs = some t) : Loads s first written t := by
  cases table <;> simp only [State.loadEntries, Option.map_eq_some_iff, Option.bind_eq_some_iff] at h <;>
    obtain ⟨xs, hxs, h⟩ := h
  case drop | curve | lanes | thin | policy => exact h ▸ .staged _
  case keys => exact h ▸ .keys fun v => writeFrom v first xs
  case sockets => exact h ▸ .sockets fun v => writeFrom v first xs
  case classes =>
    obtain ⟨_, h⟩ := Option.ite_none_right_eq_some.mp h
    exact Option.some.inj h ▸ .classes xs (parseEntries_length_le hxs)
  case settings =>
    obtain ⟨_, h⟩ := Option.ite_none_right_eq_some.mp h
    exact Option.some.inj h ▸ .settings _

/-- A load is a change of tables or staging copies, which leaves the account and the list, and then primitive changes. -/
theorem Loads.moves {s t : State} {first written : Nat} (h : Loads s first written t) :
    ∃ u, Moves u t ∧ u.residue = s.residue ∧ u.slots = s.slots ∧ u.known = s.known := by
  cases h with
  | staged _ | keys _ => exact ⟨_, .refl, rfl, rfl, rfl⟩
  | classes _ _ => exact ⟨_, Moves.foldl (moves_classLoaded first written) _ _, rfl, rfl, rfl⟩
  | sockets _ => exact ⟨_, Moves.foldl (moves_socketLoaded _) _ _, rfl, rfl, rfl⟩
  | settings _ => exact ⟨_, moves_settingsLoaded _, rfl, rfl, rfl⟩

/-! ### One slot's residue and record -/

theorem residue_setResidue (s : State) (n : Slot) (r : Nat) : (s.setResidue n r).residue[n] = r := by
  simp only [State.setResidue_residue, changeAt, Fin.getElem_fin, Vector.getElem_set_self]

theorem residue_setResidue_ne (s : State) {m n : Slot} (h : m ≠ n) (r : Nat) : (s.setResidue n r).residue[m] = s.residue[m] := by
  simp only [State.setResidue_residue, changeAt, Fin.getElem_fin]
  exact Vector.getElem_set_ne _ _ fun e => h (Fin.ext e).symm

/-- A change of one slot's residue and record keeps the ranges if the new ones lie in them. -/
theorem metered_of_slot {s t : State} (hs : s.metered) (n : Slot)
    (hn : t.residue[n] < subUnits ∧ (t.slot n).pendingDebit ≤ maxNanolitres)
    (hne : ∀ m, m ≠ n → t.residue[m] = s.residue[m] ∧ t.slot m = s.slot m) : t.metered := by
  intro m
  by_cases h : m = n
  · exact h ▸ hn
  · obtain ⟨hresidue, hslot⟩ := hne m h
    rw [hresidue, hslot]
    exact hs m

theorem metered_of_eq {s t : State} (hs : s.metered) (hr : t.residue = s.residue) (hl : t.slots = s.slots) : t.metered := by
  intro n
  rw [hr, State.slot, hl]
  exact hs n

theorem clearAccount_metered {s : State} (hs : s.metered) (n : Slot) : (s.clearAccount n).metered := by
  refine metered_of_slot hs n ⟨?_, ?_⟩ fun m h => ⟨residue_setResidue_ne s h 0, slot_onSlot_ne _ h _⟩
  · rw [State.clearAccount, State.onSlot_residue, residue_setResidue]
    decide
  · rw [State.clearAccount, slot_onSlot]
    exact Nat.zero_le _

/-- Every primitive change keeps residues and pending debits in range. -/
theorem Move.metered {s t : State} (m : Move s t) (hs : s.metered) : t.metered := by
  cases m with
  | residue n r h =>
    refine metered_of_slot hs n ⟨?_, (hs n).2⟩ fun m hm => ⟨residue_setResidue_ne s hm r, rfl⟩
    rwa [residue_setResidue]
  | slot n f hp _ =>
    refine metered_of_slot hs n ⟨(hs n).1, ?_⟩ fun m hm => ⟨rfl, slot_onSlot_ne s hm f⟩
    rw [slot_onSlot]
    exact hp.trans (max_le (hs n).2 le_rfl)
  | bind n id c _ _ =>
    refine metered_of_slot hs n ⟨?_, ?_⟩ fun m hm => ⟨residue_setResidue_ne s hm 0, slot_onSlot_ne (s.setResidue n 0) hm _⟩
    · rw [State.bindTo, State.onKnown_residue, State.onSlot_residue, residue_setResidue]
      decide
    · have hslot := slot_onSlot (s.setResidue n 0) n fun r =>
        { r with binding := some ⟨id, c⟩, level := none, proven := false }
      exact (congrArg SlotRecord.pendingDebit hslot).trans_le (hs n).2
  | unbind n =>
    obtain ⟨f, h⟩ := writeAccount_eq s n
    exact clearAccount_metered (metered_of_eq hs (by rw [h]; rfl) (by rw [h]; rfl)) n
  | place n k =>
    obtain ⟨q, h⟩ := busPlace_eq s n k
    exact metered_of_eq hs (by rw [h]; rfl) (by rw [h]; rfl)
  | swath | commits | known | raise | purge | watch => exact metered_of_eq hs rfl rfl

theorem Moves.metered {s t : State} (h : Moves s t) (hs : s.metered) : t.metered := h.keeps (fun _ _ m => m.metered) hs

/-! ### Every step -/

/-- A FIRE touches the Swath Path, the link and the Event Unit only. -/
theorem takeFire_eq (s : State) (f : RxFrame) :
    ∃ w l u, s.takeFire f = { s with swath := w, link := l, events := u } := by
  have fired (w : SwathPath) (l : Link) (v : EventUnit) (d : Descriptor) (u : HeadUse) (i : LaneIndex) (kept : Nat) :
      ∃ w' l' v', ({ s with swath := w, link := l, events := v } : State).fireKept f d u i kept
        = { s with swath := w', link := l', events := v' } := by
    unfold State.fireKept
    dsimp only
    split <;> split <;> exact ⟨_, _, _, rfl⟩
  unfold State.takeFire
  split
  · unfold State.strayFire
    split <;> exact ⟨_, _, _, rfl⟩
  · dsimp only
    split
    · split <;> exact ⟨_, _, _, rfl⟩
    · split
      · exact fired _ _ _ _ _ _ _
      · exact fired _ _ _ _ _ _ _

/-- Promotion touches the tables, the Request Decoder and the Event Unit only, and no direct table. -/
theorem promote_eq (s : State) :
    ∃ t d u, s.promote = { s with tables := t, decoder := d, events := u } ∧ t.classes = s.tables.classes := by
  unfold State.promote
  dsimp only
  split <;> exact ⟨_, _, _, rfl, rfl⟩

/-- Every change that a command makes keeps residues and pending debits in range. -/
theorem metered_kept : Kept State.metered where
  inner s t hs h := by
    obtain ⟨_, hresidue, hslots, _⟩ := State.Inner.mk.inj h
    exact metered_of_eq hs hresidue hslots
  move _ _ m := m.metered
  marked _ _ hs := metered_of_eq hs rfl rfl
  closed _ hs := metered_of_eq hs rfl rfl
  opened s payload hs := by
    obtain ⟨t, d, u, h, _⟩ := promote_eq s
    rw [h]
    exact metered_of_eq hs rfl rfl
  fired s f hs := by
    obtain ⟨w, l, u, h⟩ := takeFire_eq s f
    rw [h]
    exact metered_of_eq hs rfl rfl
  loaded _ _ _ _ _ _ _ h hs := by
    obtain ⟨u, hmoves, hresidue, hslots, _⟩ := (loadEntries_loads h).moves
    exact hmoves.metered (metered_of_eq hs hresidue hslots)
  locked s table locks hs := by
    unfold State.addLock
    dsimp only
    split <;> exact metered_of_eq hs rfl rfl
  reset s cause hs n := by
    have hslot : ((s.assertReset cause).slot n).pendingDebit = (s.slot n).pendingDebit := by
      simp [State.slot, State.assertReset]
    rw [hslot]
    exact hs n
  started s straps n := by
    have hresidue : (s.loaded straps).residue[n] = 0 := by simp [State.loaded]
    have hslot : ((s.loaded straps).slot n) = .fresh := reported_slot s straps n
    rw [hresidue, hslot]
    exact ⟨by decide, Nat.zero_le _⟩

/-- Settles O9: every primitive change of the supply blocks keeps the ranges (R56, R58, R59), and no other change touches residue or
pending debit but reset and start-up. -/
theorem meteringStaysInRange : Obligations.MeteringStaysInRange :=
  fun _ _ hs h => metered_kept.step hs h

end Sys2Proof.Machine
end

section
/-! PROOFS. The agreement of slots and list (O14's predicate, a premise of O15): what a change of the entries' places and the slots'
bindings leaves of it, and that every command keeps it (R133, R135, R136, R141). -/

namespace Sys2Proof.Machine

/-! ### The agreement in terms of places -/

/-- The serials and residences of the entries of a list. -/
def places (l : List Entry) : List (Word × Option Slot) := l.map Entry.place

theorem mem_places {l : List Entry} {serial : Word} {r : Option Slot} :
    (serial, r) ∈ places l ↔ ∃ e ∈ l, e.serial = serial ∧ e.residence = r := by
  simp [places, Entry.place]

theorem places_serials (l : List Entry) : (places l).map Prod.fst = l.map Entry.serial := by
  rw [places, List.map_map]
  rfl

/-- Slots and list agree if the bindings are the places with a residence, and the list is one that R133 allows. -/
theorem bindingsAgree_iff (s : State) :
    s.bindingsAgree ↔ (∀ n serial, s.boundSerial n = some serial ↔ (serial, some n) ∈ places s.known)
      ∧ ((places s.known).map Prod.fst).Nodup ∧ s.known.length ≤ listCapacity := by
  simp only [State.bindingsAgree, places_serials, mem_places]
  constructor
  · rintro ⟨hbound, hentry, hrest⟩
    refine ⟨fun n serial => ⟨hbound n serial, ?_⟩, hrest⟩
    rintro ⟨e, he, rfl, hr⟩
    exact hentry e he n hr
  · rintro ⟨h, hrest⟩
    exact ⟨fun n serial => (h n serial).mp, fun e he n hr => (h n e.serial).mpr ⟨e, he, rfl, hr⟩, hrest⟩

theorem bindingsAgree_of_places {s t : State} (hs : s.bindingsAgree) (hb : ∀ n, t.boundSerial n = s.boundSerial n)
    (hp : places t.known = places s.known) : t.bindingsAgree := by
  rw [bindingsAgree_iff] at hs ⊢
  have hlength : t.known.length = s.known.length := by simpa [places] using congrArg List.length hp
  simpa only [hb, hp, hlength] using hs

theorem boundSerial_of_slot {s t : State} {n : Slot} (h : (t.slot n).binding = (s.slot n).binding) :
    t.boundSerial n = s.boundSerial n := by
  rw [State.boundSerial, State.boundSerial, h]

theorem bindingsAgree_of_eq {s t : State} (hs : s.bindingsAgree) (hl : t.slots = s.slots) (hk : t.known = s.known) :
    t.bindingsAgree :=
  bindingsAgree_of_places hs (fun n => boundSerial_of_slot (by rw [State.slot, State.slot, hl])) (by rw [hk])

/-- Two places of one serial are one. -/
theorem residence_unique {l : List (Word × Option Slot)} (h : (l.map Prod.fst).Nodup) {serial : Word} {r q : Option Slot}
    (hr : (serial, r) ∈ l) (hq : (serial, q) ∈ l) : r = q :=
  congrArg Prod.snd (List.inj_on_of_nodup_map h hr hq rfl)

/-! ### Unbinding -/

/-- The places with one serial set OUT. -/
theorem mem_places_outed {l : List Entry} {level : Option Nat} {debit : Nat} {x serial : Word} {n : Slot} :
    (serial, some n) ∈ places (l.map fun e => if e.serial = x then unboundEntry level debit e else e)
      ↔ (serial, some n) ∈ places l ∧ serial ≠ x := by
  simp only [mem_places, List.mem_map]
  constructor
  · rintro ⟨_, ⟨e, he, rfl⟩, hserial, hr⟩
    split at hserial
    · rw [if_pos ‹_›] at hr
      cases hr
    · rename_i hne
      rw [if_neg hne] at hr
      exact ⟨⟨e, he, hserial, hr⟩, hserial ▸ hne⟩
  · rintro ⟨⟨e, he, rfl, hr⟩, hne⟩
    exact ⟨e, ⟨e, he, if_neg hne⟩, rfl, hr⟩

theorem outed_serials (l : List Entry) (level : Option Nat) (debit : Nat) (x : Word) :
    (l.map fun e => if e.serial = x then unboundEntry level debit e else e).map Entry.serial = l.map Entry.serial := by
  rw [List.map_map]
  refine List.map_congr_left fun e _ => ?_
  simp only [Function.comp_apply]
  split <;> rfl

theorem boundSerial_clearAccount (s : State) (n : Slot) : (s.clearAccount n).boundSerial n = none := by
  rw [State.boundSerial, State.clearAccount, slot_onSlot]
  rfl

theorem boundSerial_clearAccount_ne (s : State) {m n : Slot} (h : m ≠ n) :
    (s.clearAccount n).boundSerial m = s.boundSerial m :=
  boundSerial_of_slot (by rw [State.clearAccount, slot_onSlot_ne _ h]; rfl)

/-- Unbinding keeps slots and list in agreement: the slot's entry, if it has one, is set OUT (R95, R141). -/
theorem unbind_bindingsAgree {s : State} (hs : s.bindingsAgree) (n : Slot) :
    ((s.writeAccount n).clearAccount n).bindingsAgree := by
  cases hx : s.boundSerial n with
  | none =>
    have hwrite : s.writeAccount n = s := by rw [State.writeAccount, State.onBoundEntry, hx]
    rw [hwrite]
    refine bindingsAgree_of_places hs (fun m => ?_) rfl
    by_cases h : m = n
    · rw [h, boundSerial_clearAccount, hx]
    · exact boundSerial_clearAccount_ne s h
  | some x =>
    have hwrite : s.writeAccount n = s.onEntry x (unboundEntry (s.slot n).level (s.slot n).pendingDebit) := by
      rw [State.writeAccount, State.onBoundEntry, hx]
    obtain ⟨hbound, hnodup, hlength⟩ := (bindingsAgree_iff s).mp hs
    rw [hwrite, bindingsAgree_iff]
    refine ⟨fun m serial => ?_, ?_, ?_⟩
    · refine Iff.trans ?_ mem_places_outed.symm
      rw [← hbound m serial]
      by_cases h : m = n
      · subst h
        simp [boundSerial_clearAccount, hx, eq_comm]
      · have hne : s.boundSerial m = some serial → serial ≠ x := by
          rintro hm rfl
          exact h (Option.some.inj (residence_unique hnodup ((hbound m _).mp hm) ((hbound n _).mp hx)))
        rw [boundSerial_clearAccount_ne _ h]
        exact ⟨fun hm => ⟨hm, hne hm⟩, And.left⟩
    · rw [places_serials] at hnodup ⊢
      exact (outed_serials s.known _ _ x).symm ▸ hnodup
    · simpa [State.clearAccount, State.onEntry] using hlength

/-! ### Binding -/

/-- The entry evicted is OUT (R136). -/
theorem evictionIndex_out {l : List Entry} {i : Nat} (h : evictionIndex l = some i) : ∃ e, l[i]? = some e ∧ e.residence = none := by
  unfold evictionIndex at h
  dsimp only at h
  have hout : ∃ e, l[i]? = some e ∧ e.residence.isNone = true := by
    split at h
    · rename_i hfind
      cases h
      have := List.find?_some hfind
      split at this
      · exact ⟨_, ‹_›, by simpa using And.left (by simpa using this)⟩
      · simp at this
    · have := List.find?_some h
      split at this
      · exact ⟨_, ‹_›, this⟩
      · cases this
  obtain ⟨e, he, hr⟩ := hout
  exact ⟨e, he, Option.isNone_iff_eq_none.mp hr⟩

/-- Where no entry can be evicted, none is OUT. -/
theorem residence_of_evictionIndex_none {l : List Entry} (h : evictionIndex l = none) {e : Entry} (he : e ∈ l) :
    e.residence ≠ none := by
  intro hr
  obtain ⟨i, hi⟩ := List.mem_iff_getElem?.mp he
  unfold evictionIndex at h
  dsimp only at h
  split at h
  · cases h
  · have := List.find?_eq_none.mp h i (by simpa using (List.getElem?_eq_some_iff.mp hi).1)
    simp [hi, hr] at this

/-- A list that agrees with the slots has fewer entries than its capacity, or one that is OUT: only twelve are in slots. -/
theorem makeRoom_length {s : State} (hs : s.bindingsAgree) : (makeRoom s.known).length < listCapacity := by
  obtain ⟨_, hentry, hnodup, hlength⟩ := hs
  unfold makeRoom
  split
  · split
    · rename_i i hi
      obtain ⟨e, he, _⟩ := evictionIndex_out hi
      obtain ⟨hlt, _⟩ := List.getElem?_eq_some_iff.mp he
      rw [List.length_eraseIdx_of_lt hlt]
      omega
    · rename_i hfull _ hnone
      have hserials : s.known.map Entry.serial = s.known.map fun e => ((e.residence.bind s.boundSerial).getD 0#32) := by
        refine List.map_congr_left fun e he => ?_
        obtain ⟨n, hr⟩ := Option.ne_none_iff_exists'.mp (residence_of_evictionIndex_none hnone he)
        rw [hr, Option.bind_some, hentry e he n hr, Option.getD_some]
      have hresidences : (s.known.map Entry.residence).Nodup := by
        refine List.Nodup.of_map (fun r => (r.bind s.boundSerial).getD 0#32) ?_
        rw [List.map_map]
        exact hserials ▸ hnodup
      have hcard := hresidences.length_le_card
      simp only [List.length_map, Fintype.card_option, Fintype.card_fin] at hcard
      simp only [listCapacity] at hfull
      omega
  · omega

/-- Eviction takes no entry that is in a slot. -/
theorem mem_places_makeRoom {l : List Entry} {serial : Word} {n : Slot} :
    (serial, some n) ∈ places (makeRoom l) ↔ (serial, some n) ∈ places l := by
  unfold makeRoom
  split
  · split
    · rename_i i hi
      obtain ⟨out, hout, hr⟩ := evictionIndex_out hi
      simp only [mem_places]
      constructor
      · rintro ⟨e, he, h⟩
        exact ⟨e, List.mem_of_mem_eraseIdx he, h⟩
      · rintro ⟨e, he, hserial, hn⟩
        obtain ⟨j, hj⟩ := List.mem_iff_getElem?.mp he
        have hne : j ≠ i := by
          rintro rfl
          rw [hout] at hj
          cases hj
          rw [hr] at hn
          cases hn
        exact ⟨e, List.mem_eraseIdx_iff_getElem?.mpr ⟨j, hne, hj⟩, hserial, hn⟩
    · rfl
  · rfl

theorem makeRoom_sublist (l : List Entry) : (makeRoom l).Sublist l := by
  unfold makeRoom
  split
  · split
    · exact List.eraseIdx_sublist l _
    · exact .refl l
  · exact .refl l

/-- The list when a cartridge that is in no other slot is bound: its place stands first, and the others in slots stay. -/
theorem bindEntry_places {s : State} (hs : s.bindingsAgree) (id : Identity) (n : Slot) :
    ∃ l, (bindEntry s.known id n).map Entry.place = (id.serial, some n) :: places l
      ∧ (∀ serial m, serial ≠ id.serial → ((serial, some m) ∈ places l ↔ (serial, some m) ∈ places s.known))
      ∧ id.serial ∉ l.map Entry.serial ∧ l.Sublist s.known ∧ l.length < listCapacity := by
  have hlength := hs.2.2.2
  unfold bindEntry
  split
  · rename_i e he
    have hserial : e.serial = id.serial := by simpa using List.find?_some he
    refine ⟨s.known.filter fun e => !(e.serial == id.serial), ?_, fun serial m hne => ?_, by simp, List.filter_sublist, ?_⟩
    · simp [places, Entry.place, reboundEntry, hserial]
    · simp only [mem_places, List.mem_filter]
      constructor
      · rintro ⟨e, ⟨he, _⟩, h⟩
        exact ⟨e, he, h⟩
      · rintro ⟨e, he, rfl, hr⟩
        exact ⟨e, ⟨he, by simpa using hne⟩, rfl, hr⟩
    · refine lt_of_lt_of_le ?_ hlength
      exact List.length_filter_lt_length_iff_exists.mpr ⟨e, List.mem_of_find?_eq_some he, by simp [hserial]⟩
  · rename_i hnone
    refine ⟨makeRoom s.known, rfl, fun _ _ _ => mem_places_makeRoom, fun h => ?_, makeRoom_sublist _, makeRoom_length hs⟩
    obtain ⟨e, he, hserial⟩ := List.mem_map.mp ((makeRoom_sublist _).subset |> fun hsub => List.map_subset _ hsub h)
    have := List.find?_eq_none.mp hnone e he
    simp [hserial] at this

theorem boundSerial_bindTo (s : State) (n : Slot) (id : Identity) (c : Fin 16) :
    (s.bindTo n id c).boundSerial n = some id.serial := by
  have h := slot_onSlot (s.setResidue n 0) n fun r => { r with binding := some ⟨id, c⟩, level := none, proven := false }
  exact congrArg (fun r : SlotRecord => r.binding.map fun b => b.identity.serial) h

theorem boundSerial_bindTo_ne (s : State) {m n : Slot} (h : m ≠ n) (id : Identity) (c : Fin 16) :
    (s.bindTo n id c).boundSerial m = s.boundSerial m :=
  boundSerial_of_slot (congrArg SlotRecord.binding (slot_onSlot_ne (s.setResidue n 0) h _))

/-- Binding keeps slots and list in agreement (R99, R133, R135, R136). -/
theorem bindTo_bindingsAgree {s : State} (hs : s.bindingsAgree) (n : Slot) (id : Identity) (c : Fin 16)
    (hn : (s.slot n).binding = none) (helse : s.boundElsewhere id.serial n = false) : (s.bindTo n id c).bindingsAgree := by
  obtain ⟨hbound, hnodup, _⟩ := (bindingsAgree_iff s).mp hs
  obtain ⟨l, hplaces, hothers, hfresh, hsub, hlength⟩ := bindEntry_places hs id n
  have hfree : s.boundSerial n = none := by rw [State.boundSerial, hn, Option.map_none]
  have hout (m : Slot) : s.boundSerial m ≠ some id.serial := by
    intro hm
    have hmn : m ≠ n := by
      rintro rfl
      rw [hfree] at hm
      cases hm
    obtain ⟨e, he, hserial, hr⟩ := mem_places.mp ((hbound m _).mp hm)
    have := List.any_eq_false.mp helse e he
    simp [hserial, hr, hmn] at this
  rw [bindingsAgree_iff]
  have hknown : places (s.bindTo n id c).known = (id.serial, some n) :: places l := hplaces
  refine ⟨fun m serial => ?_, ?_, ?_⟩
  · rw [hknown, List.mem_cons, Prod.mk.injEq, Option.some.injEq]
    by_cases hserial : serial = id.serial
    · have hnot : (serial, some m) ∉ places l := by
        rw [hserial, mem_places]
        rintro ⟨e, he, h, _⟩
        exact hfresh (h ▸ List.mem_map_of_mem he)
      by_cases hm : m = n
      · simp [hm, hserial, boundSerial_bindTo]
      · simp [hm, hserial, boundSerial_bindTo_ne s hm, hout m, hserial ▸ hnot]
    · rw [hothers serial m hserial, ← hbound m serial]
      by_cases hm : m = n
      · simp [hm, boundSerial_bindTo, hfree, hserial, Ne.symm hserial]
      · simp [hm, boundSerial_bindTo_ne s hm]
  · rw [hknown, List.map_cons, places_serials, List.nodup_cons]
    rw [places_serials] at hnodup
    exact ⟨hfresh, (hsub.map Entry.serial).nodup hnodup⟩
  · have := congrArg List.length hknown
    simp only [places, List.length_map, List.length_cons] at this
    omega

/-! ### Every step -/

/-- Every primitive change keeps slots and list in agreement. -/
theorem Move.bindingsAgree {s t : State} (m : Move s t) (hs : s.bindingsAgree) : t.bindingsAgree := by
  cases m with
  | slot n f _ hb =>
    refine bindingsAgree_of_places hs (fun m => boundSerial_of_slot ?_) rfl
    by_cases h : m = n
    · rw [h, slot_onSlot, hb]
    · rw [slot_onSlot_ne s h]
  | known f h => exact bindingsAgree_of_places hs (fun _ => rfl) h
  | bind n id c h helse => exact bindTo_bindingsAgree hs n id c h helse
  | unbind n => exact unbind_bindingsAgree hs n
  | place n k =>
    obtain ⟨q, h⟩ := busPlace_eq s n k
    exact bindingsAgree_of_eq hs (by rw [h]; rfl) (by rw [h]; rfl)
  | swath | residue | commits | raise | purge | watch => exact bindingsAgree_of_eq hs rfl rfl

theorem Moves.bindingsAgree {s t : State} (h : Moves s t) (hs : s.bindingsAgree) : t.bindingsAgree :=
  h.keeps (fun _ _ m => m.bindingsAgree) hs

/-- KNOWN as it is read holds at most 48 entries, no two of one serial (R133, R181). -/
theorem parseKnown_allowed {bs : List Byte} {k : KnownImage} (h : parseKnown bs = some k) :
    (k.entries.map Entry.serial).Nodup ∧ k.entries.length ≤ listCapacity := by
  obtain ⟨⟨hcount, _⟩, h⟩ := Option.ite_none_right_eq_some.mp h
  split at h
  · rename_i entries hentries
    obtain ⟨hnodup, hsome⟩ := Option.ite_none_right_eq_some.mp h
    cases hsome
    exact ⟨hnodup, (parseEntries_length_le hentries).trans hcount⟩
  · cases h

theorem loaded_bindingsAgree (s : State) (straps : BitVec 4) : (s.loaded straps).bindingsAgree := by
  have hserials : (s.loaded straps).known.map Entry.serial = s.store.loadedKnown.entries.map Entry.serial := by
    rw [State.loaded, List.map_map]
    rfl
  obtain ⟨hnodup, hlength⟩ :=
    judge_contents_holds (q := fun k : KnownImage => (k.entries.map Entry.serial).Nodup ∧ k.entries.length ≤ listCapacity)
      (defaults := ⟨[], 0#32, 0⟩) parseKnown_allowed ⟨List.nodup_nil, Nat.zero_le _⟩ s.store.known
  refine ⟨fun n serial h => ?_, fun e he n hr => ?_, hserials ▸ hnodup, ?_⟩
  · have hslot : (s.loaded straps).slot n = .fresh := reported_slot s straps n
    rw [State.boundSerial, hslot] at h
    cases h
  · obtain ⟨_, _, rfl⟩ := List.mem_map.mp he
    cases hr
  · exact (List.length_map _).trans_le hlength

/-- Every change that a command makes keeps slots and list in agreement. -/
theorem bindingsAgree_kept : Kept State.bindingsAgree where
  inner s t hs h := by
    obtain ⟨_, _, hslots, hknown, _⟩ := State.Inner.mk.inj h
    exact bindingsAgree_of_eq hs hslots hknown
  move _ _ m := m.bindingsAgree
  marked _ _ hs := bindingsAgree_of_eq hs rfl rfl
  closed _ hs := bindingsAgree_of_eq hs rfl rfl
  opened s payload hs := by
    obtain ⟨t, d, u, h, _⟩ := promote_eq s
    rw [h]
    exact bindingsAgree_of_eq hs rfl rfl
  fired s f hs := by
    obtain ⟨w, l, u, h⟩ := takeFire_eq s f
    rw [h]
    exact bindingsAgree_of_eq hs rfl rfl
  loaded _ _ _ _ _ _ _ h hs := by
    obtain ⟨u, hmoves, _, hslots, hknown⟩ := (loadEntries_loads h).moves
    exact hmoves.bindingsAgree (bindingsAgree_of_eq hs hslots hknown)
  locked s table locks hs := by
    unfold State.addLock
    dsimp only
    split <;> exact bindingsAgree_of_eq hs rfl rfl
  reset s cause hs := bindingsAgree_of_places hs (fun n => boundSerial_of_slot (by simp [State.slot, State.assertReset])) rfl
  started s straps := loaded_bindingsAgree s straps

end Sys2Proof.Machine
end

section
/-! PROOFS. The slots' records under the operations of the supply blocks: what a recomputation, a change of state and an unbinding make
of a slot's record, and the operations that at most regrade a proven slot. -/

namespace Sys2Proof.Machine

/-! ### One element changed -/

theorem changeAt_changeAt {α : Type} {k : Nat} (v : Vector α k) (i : Fin k) (f g : α → α) :
    changeAt (changeAt v i f) i g = changeAt v i (g ∘ f) := by
  simp [changeAt]

theorem changeAt_of_eq {α : Type} {k : Nat} {v : Vector α k} {i : Fin k} {f : α → α} (h : f v[i] = v[i]) :
    changeAt v i f = v := by
  rw [changeAt, h]
  exact Vector.set_getElem_self _

theorem slot_of_changeAt {s t : State} {n : Slot} {f : SlotRecord → SlotRecord} (h : t.slots = changeAt s.slots n f) :
    t.slot n = f (s.slot n) := by
  rw [State.slot, h, ← State.onSlot_slots s n f]
  exact slot_onSlot s n f

theorem slot_of_changeAt_ne {s t : State} {n m : Slot} {f : SlotRecord → SlotRecord} (h : t.slots = changeAt s.slots n f)
    (hm : m ≠ n) : t.slot m = s.slot m := by
  rw [State.slot, h, ← State.onSlot_slots s n f]
  exact slot_onSlot_ne s hm f

/-! ### Records -/

/-- A record with the band that its estimate and marks give (R65, R66). -/
def SlotRecord.banded (t : Tables) (r : SlotRecord) : SlotRecord := { r with band := currentBand t r }

/-- A record in a new state, its countdown and band adjusted to it (R66, R113). -/
def SlotRecord.turned (t : Tables) (st : SlotState) (r : SlotRecord) : SlotRecord :=
  SlotRecord.banded t
    { r with state := st, countdown := if r.state.isProven && !st.isProven then 0 else r.countdown }

/-- A record without its cartridge (R95). -/
def SlotRecord.cleared (r : SlotRecord) : SlotRecord :=
  { r with pendingDebit := 0, band := .none, binding := none, level := none, proven := false }

/-- A record without the counters of its challenge sequences, which neither its soundness nor its band looks at. -/
def SlotRecord.core (r : SlotRecord) : SlotRecord := { r with allowance := 0, attempts := 0, round := 0 }

theorem banded_band (t : Tables) (r : SlotRecord) : (r.banded t).band = currentBand t (r.banded t) := rfl

theorem turned_band (t : Tables) (st : SlotState) (r : SlotRecord) : (r.turned t st).band = currentBand t (r.turned t st) := rfl

theorem sound_core (r : SlotRecord) : r.core.sound ↔ r.sound := Iff.rfl

theorem band_core (t : Tables) (r : SlotRecord) : r.core.band = currentBand t r.core ↔ r.band = currentBand t r := Iff.rfl

/-- A record in a new state is sound if the state suits its binding, its hold-off timer and its proof. -/
theorem turned_sound {r : SlotRecord} {st : SlotState} (t : Tables)
    (hunbound : r.binding = none → r.level = none ∧ r.proven = false) (hcountdown : r.state.isProven = false → r.countdown = 0)
    (hbinding : st.allowsBinding r.binding.isSome) (hholdoff : r.holdoff.isSome = true → st = .holdoff)
    (hproven : st.isProven = true → r.proven = true ∧ r.level.isSome = true) : (r.turned t st).sound := by
  refine ⟨hbinding, hunbound, hholdoff, fun hst => ?_, hproven⟩
  have hst' : st.isProven = false := hst
  change (if r.state.isProven && !st.isProven then 0 else r.countdown) = 0
  rw [hst']
  cases hr : r.state.isProven
  · simpa using hcountdown hr
  · rfl

/-- A slot that is proven may be regraded, GENUINE to SUSPECT or back. -/
theorem turned_sound_of_proven {r : SlotRecord} {st : SlotState} (t : Tables) (hr : r.sound) (hp : r.state.isProven = true)
    (hst : st.isProven = true) : (r.turned t st).sound := by
  obtain ⟨hbinding, hunbound, hholdoff, hcountdown, hproven⟩ := hr
  refine turned_sound t hunbound hcountdown ?_ (fun h => ?_) fun _ => hproven hp
  · cases hs : r.state <;> rw [hs] at hp hbinding <;> cases hp <;> cases st <;> cases hst <;> exact hbinding
  · rw [hholdoff h] at hp
    cases hp

/-! ### The recomputation, a change of state, an unbinding -/

@[simp] theorem reEvaluate_slots (s : State) (n : Slot) : (s.reEvaluate n).slots = s.slots := by
  unfold State.reEvaluate
  split <;> rfl

@[simp] theorem reEvaluate_tables (s : State) (n : Slot) : (s.reEvaluate n).tables = s.tables := (moves_reEvaluate s n).tables

@[simp] theorem onBoundEntry_slots (s : State) (n : Slot) (f : Entry → Entry) : (s.onBoundEntry n f).slots = s.slots := by
  obtain ⟨g, h⟩ := onBoundEntry_eq s n f
  rw [h]
  rfl

@[simp] theorem busPlace_slots (s : State) (n : Slot) (k : BusKind) : (s.busPlace n k).slots = s.slots := by
  obtain ⟨q, h⟩ := busPlace_eq s n k
  rw [h]
  rfl

theorem recompute_slots (s : State) (n : Slot) : (s.recompute n).slots = changeAt s.slots n (SlotRecord.banded s.tables) := by
  unfold State.recompute
  dsimp only
  split
  · rename_i h
    refine (changeAt_of_eq ?_).symm
    change ({ s.slot n with band := currentBand s.tables (s.slot n) } : SlotRecord) = s.slot n
    rw [h]
  · rw [reEvaluate_slots]
    have hband : changeAt s.slots n (fun r => { r with band := currentBand s.tables (s.slot n) })
        = changeAt s.slots n (SlotRecord.banded s.tables) := rfl
    split <;> exact hband

theorem changeState_slots (s : State) (n : Slot) (st : SlotState) :
    (s.changeState n st).slots = changeAt s.slots n (SlotRecord.turned s.tables st) := by
  rw [State.changeState, reEvaluate_slots, recompute_slots, State.onSlot_slots, changeAt_changeAt]
  rfl

theorem meterInto_slots (s : State) (lines : List RecordLine) (n : Slot) :
    ∃ d, (s.meterInto lines n).slots = changeAt s.slots n fun r => { r with pendingDebit := addHeld r.pendingDebit d } :=
  ⟨_, reEvaluate_slots _ n⟩

theorem interimMetering_slots (s : State) (n : Slot) :
    ∃ f : Nat → Nat, (s.interimMetering n).slots = changeAt s.slots n fun r => { r with pendingDebit := f r.pendingDebit } := by
  unfold State.interimMetering
  split
  · obtain ⟨d, h⟩ := meterInto_slots s _ n
    exact ⟨fun p => addHeld p d, (State.onSwath_slots _ _).trans h⟩
  · exact ⟨id, (changeAt_of_eq rfl).symm⟩

theorem unbindCommit_slots (s : State) (n : Slot) : (s.unbindCommit n).slots = s.slots := by
  unfold State.unbindCommit
  dsimp only
  rw [State.onCommit_slots]
  split
  · exact onBoundEntry_slots s n _
  · exact onBoundEntry_slots s n _
  · rfl

theorem unbind_slots (s : State) (n : Slot) (st : SlotState) :
    (s.unbind n st).slots = changeAt s.slots n (SlotRecord.turned s.tables st ∘ SlotRecord.cleared) := by
  obtain ⟨f, hf⟩ := interimMetering_slots s n
  have hwritten : (if ((s.interimMetering n).slot n).binding.isSome
      then ((s.interimMetering n).unbindCommit n).writeAccount n else s.interimMetering n).slots = (s.interimMetering n).slots := by
    split
    · exact (onBoundEntry_slots _ n _).trans (unbindCommit_slots _ n)
    · rfl
  have htables : (if ((s.interimMetering n).slot n).binding.isSome
      then ((s.interimMetering n).unbindCommit n).writeAccount n else s.interimMetering n).tables = s.tables := by
    refine Eq.trans ?_ (moves_interimMetering s n).tables
    split
    · obtain ⟨g, h⟩ := writeAccount_eq ((s.interimMetering n).unbindCommit n) n
      rw [h]
      exact (moves_unbindCommit _ n).tables
    · rfl
  rw [State.unbind, changeState_slots, State.clearAccount, State.onSlot_slots, State.setResidue_slots, hwritten, hf,
    changeAt_changeAt, changeAt_changeAt, State.onSlot_tables, State.setResidue_tables, htables]
  rfl

/-! ### Operations that at most regrade a proven slot -/

/-- The slots keep their records but for the counters of challenge sequences (R106, R107) and, of slots that are GENUINE or SUSPECT,
which of the two (R151, R152). -/
inductive Regrades (s : State) : State → Prop
  | refl : Regrades s s
  | counters {t u : State} (h : Regrades s t) (ht : u.tables = t.tables) (hc : ∀ n, (u.slot n).core = (t.slot n).core) :
      Regrades s u
  | grade {t u : State} (h : Regrades s t) (ht : u.tables = t.tables) (n : Slot) (st : SlotState)
      (hp : (t.slot n).state.isProven = true) (hst : st.isProven = true)
      (hl : u.slots = changeAt t.slots n (SlotRecord.turned t.tables st)) : Regrades s u

theorem Regrades.trans {s t u : State} (h : Regrades s t) (g : Regrades t u) : Regrades s u := by
  induction g with
  | refl => exact h
  | counters _ ht hc ih => exact .counters ih ht hc
  | grade _ ht n st hp hst hl ih => exact .grade ih ht n st hp hst hl

/-- An operation that leaves the slots and the tables. -/
theorem regrades_same {s t : State} (hl : t.slots = s.slots := by rfl) (ht : t.tables = s.tables := by rfl) : Regrades s t :=
  .counters .refl ht fun n => by rw [State.slot, hl]; rfl

theorem regrades_counters {s : State} {n : Slot} {f : SlotRecord → SlotRecord} (h : ∀ r, (f r).core = r.core := by intro r; rfl) :
    Regrades s (s.onSlot n f) := by
  refine .counters .refl rfl fun m => ?_
  by_cases hm : m = n
  · rw [hm, slot_onSlot, h]
  · rw [slot_onSlot_ne s hm]

theorem regrades_changeState {s : State} {n : Slot} {st : SlotState} (hp : (s.slot n).state.isProven = true)
    (hst : st.isProven = true) : Regrades s (s.changeState n st) :=
  .grade .refl (moves_changeState s n st).tables n st hp hst (changeState_slots s n st)

theorem regrades_ite {s t u : State} {p : Prop} [Decidable p] (h : p → Regrades s t) (g : ¬p → Regrades s u) :
    Regrades s (if p then t else u) := by
  split
  · exact h ‹_›
  · exact g ‹_›

theorem Regrades.foldl {α : Type} {g : State → α → State} (hg : ∀ s a, Regrades s (g s a)) (l : List α) (s : State) :
    Regrades s (l.foldl g s) := by
  induction l generalizing s with
  | nil => exact .refl
  | cons a l ih => exact (hg s a).trans (ih _)

theorem regrades_reEvaluate (s : State) (n : Slot) : Regrades s (s.reEvaluate n) :=
  regrades_same (reEvaluate_slots s n) (reEvaluate_tables s n)

theorem regrades_boundEntry (s : State) (n : Slot) (f : Entry → Entry) : Regrades s (s.onBoundEntry n f) := by
  obtain ⟨g, h⟩ := onBoundEntry_eq s n f
  rw [h]
  exact regrades_same

theorem regrades_place (s : State) (n : Slot) (k : BusKind) : Regrades s (s.busPlace n k) :=
  regrades_same (busPlace_slots s n k) (moves_place s n k).tables

theorem regrades_askChallenge (s : State) (n : Slot) : Regrades s (s.askChallenge n) := by
  have ask : Regrades s (if s.sequenceOpen n then s.busPlace n .challenge
      else (s.onSlot n fun r => { r with allowance := s.tables.aRun, attempts := 0 }).busPlace n .challenge) :=
    regrades_ite (fun _ => regrades_place s n _) fun _ => Regrades.trans regrades_counters (regrades_place _ n _)
  unfold State.askChallenge
  split
  · exact ask
  · exact ask
  · exact regrades_place s n _
  · exact .refl

theorem regrades_askCommit (s : State) (cause : CommitCause) (n : Slot) : Regrades s (s.askCommit cause n) := by
  refine regrades_ite (fun _ => ?_) fun _ => .refl
  unfold State.commitByPhase
  split
  · exact (regrades_place s n _).trans regrades_same
  · exact regrades_place s n _
  · exact regrades_same
  · exact .refl
  · exact Regrades.trans regrades_same (regrades_askChallenge (s.onCommit n _) n)
  · exact .refl

theorem regrades_recheck (s : State) (n : Slot) : Regrades s (s.recheck n) :=
  regrades_ite (fun _ => regrades_askCommit s .close n) fun _ => .refl

theorem regrades_settleEnd (s : State) (n : Slot) : Regrades s (s.settleEnd n) := by
  refine (regrades_recheck s n).trans ?_
  change Regrades _ (State.actFollowOn _ n)
  unfold State.actFollowOn
  refine regrades_ite (fun _ => ?_) fun _ => .refl
  exact regrades_ite (fun _ => regrades_same) fun _ => Regrades.trans regrades_same (regrades_askCommit (State.onCommit _ n _) _ n)

theorem regrades_parkSlot (s : State) (n : Slot) : Regrades s (s.parkSlot n) := by
  obtain ⟨l, h⟩ := parkSlot_eq s n
  rw [h]
  exact regrades_same

theorem regrades_followLevel (s : State) (n : Slot) : Regrades s (s.followLevel n) := by
  unfold State.followLevel
  split
  · exact regrades_boundEntry s n _
  · exact .refl

theorem regrades_markExhausted (s : State) (n : Slot) : Regrades s (s.markExhausted n) :=
  regrades_ite (fun _ => regrades_boundEntry s n _) fun _ => .refl

theorem regrades_adjustCount (s : State) (serial : Word) (finding : LevelFinding) :
    Regrades s (s.adjustCount serial finding) :=
  regrades_ite (fun _ => regrades_same) fun _ => regrades_same

theorem regrades_checkConfirmation (s : State) (n : Slot) (newLevel : Nat) : Regrades s (s.checkConfirmation n newLevel) := by
  unfold State.checkConfirmation
  split
  · exact regrades_ite (fun _ => regrades_same) fun _ => .refl
  · exact .refl

/-! #### Suspicion -/

theorem regrades_setMark (s : State) (serial : Word) : Regrades s (s.setMark serial) := by
  unfold State.setMark
  dsimp only
  split
  · refine regrades_ite (fun _ => ?_) fun _ => .refl
    split
    · refine Regrades.trans (regrades_ite (fun hg => ?_) fun _ => ?_) (t := ite _ _ _) regrades_same
      · exact Regrades.trans regrades_same (regrades_changeState (s := s.onEntry serial _) (congrArg SlotState.isProven hg) rfl)
      · exact regrades_same
    · exact regrades_same
  · exact .refl

theorem regrades_clearMark (s : State) (serial : Word) : Regrades s (s.clearMark serial) := by
  unfold State.clearMark
  dsimp only
  split
  · refine regrades_ite (fun _ => ?_) fun _ => .refl
    split
    · refine regrades_ite (fun hg => ?_) fun _ => regrades_same
      exact Regrades.trans regrades_same (regrades_changeState (s := s.onEntry serial _) (congrArg SlotState.isProven hg) rfl)
    · exact regrades_same
  · exact .refl

theorem regrades_settleMark (s : State) (serial : Word) : Regrades s (s.settleMark serial) :=
  (regrades_setMark s serial).trans (regrades_clearMark _ serial)

theorem regrades_addWeight (s : State) (serial : Word) (weight : Nat) : Regrades s (s.addWeight serial weight) :=
  regrades_ite (fun _ => .refl) fun _ => Regrades.trans regrades_same (regrades_setMark (s.onEntry serial _) serial)

theorem regrades_settingsLoaded (s : State) : Regrades s s.settingsLoaded :=
  (Regrades.foldl regrades_reEvaluate _ s).trans
    (Regrades.foldl (g := fun t (e : Entry) => t.settleMark e.serial) (fun t e => regrades_settleMark t e.serial) _ _)

theorem regrades_bindingChecks (s : State) (found : Option Entry) (id : Identity) (ceiling : Nat) :
    Regrades s (s.bindingChecks found id ceiling) := by
  unfold State.bindingChecks
  dsimp only
  refine Regrades.trans ?_ (regrades_ite (fun _ => regrades_addWeight _ _ _) fun _ => .refl)
  split
  · refine regrades_ite (fun _ => ?_) fun _ => regrades_ite (fun _ => regrades_addWeight _ _ _) fun _ => .refl
    exact regrades_ite (fun _ => regrades_addWeight _ _ _) fun _ => regrades_same
  · exact .refl

theorem regrades_endBinding (s : State) (serial : Word) (n : Slot) : Regrades s (s.endBinding serial n) := by
  unfold State.endBinding
  dsimp only
  refine (regrades_setMark s serial).trans ?_
  split
  · exact regrades_ite (fun _ => regrades_same) fun _ => .refl
  · exact .refl

end Sys2Proof.Machine
end

section
/-! PROOFS. The soundness of the slots' records, with the bands of some slots left aside while an operation has not yet recomputed
them; and what an operation keeps of a slot while it is judged. -/

namespace Sys2Proof.Machine

/-! ### Soundness with some bands left aside -/

/-- Every slot's record agrees with itself, and has the band that its estimate and marks give unless it is one of `q`. -/
def State.soundBut (q : Slot → Prop) (s : State) : Prop :=
  ∀ n, (s.slot n).sound ∧ (¬ q n → (s.slot n).band = currentBand s.tables (s.slot n))

theorem soundBut_none (s : State) : s.soundBut (fun _ => False) ↔ s.slotsSound := by
  simp [State.soundBut, State.slotsSound]

theorem State.soundBut.mono {s : State} {q p : Slot → Prop} (hs : s.soundBut q) (h : ∀ n, q n → p n) : s.soundBut p :=
  fun n => ⟨(hs n).1, fun hn => (hs n).2 (mt (h n) hn)⟩

theorem State.slotsSound.but {s : State} (hs : s.slotsSound) (q : Slot → Prop) : s.soundBut q :=
  ((soundBut_none s).mpr hs).mono fun _ => False.elim

section
variable {s t : State} {n : Slot} {f : SlotRecord → SlotRecord} {q : Slot → Prop}

/-- One slot's record changes. -/
theorem soundBut_of_changeAt (hs : s.soundBut q) (hl : t.slots = changeAt s.slots n f) (ht : t.tables = s.tables)
    (hf : (s.slot n).sound → (f (s.slot n)).sound) {p : Slot → Prop} (hp : ∀ m, m ≠ n → q m → p m)
    (hband : ¬ p n → (f (s.slot n)).band = currentBand s.tables (f (s.slot n))) : t.soundBut p := by
  intro m
  rw [ht]
  by_cases hm : m = n
  · subst hm
    rw [slot_of_changeAt hl]
    exact ⟨hf (hs m).1, hband⟩
  · rw [slot_of_changeAt_ne hl hm]
    exact ⟨(hs m).1, fun h => (hs m).2 (mt (hp m hm) h)⟩

/-- A slot's account changes, and its band is left aside. -/
theorem soundBut_of_account (hs : s.soundBut (· = n)) (hl : t.slots = changeAt s.slots n f) (ht : t.tables = s.tables)
    (hf : (s.slot n).sound → (f (s.slot n)).sound) : t.soundBut (· = n) :=
  soundBut_of_changeAt hs hl ht hf (fun _ _ h => h) fun h => absurd rfl h

/-- A slot's band is recomputed, and no longer left aside. -/
theorem recompute_soundBut (hs : s.soundBut q) (n : Slot) : (s.recompute n).soundBut fun m => m ≠ n ∧ q m :=
  soundBut_of_changeAt hs (recompute_slots s n) (moves_recompute s n).tables id (fun _ hm h => ⟨hm, h⟩)
    fun _ => banded_band _ _

theorem recompute_slotsSound (hs : s.soundBut (· = n)) : (s.recompute n).slotsSound :=
  (soundBut_none _).mp ((recompute_soundBut hs n).mono fun _ ⟨hne, h⟩ => hne h)

/-- A slot's record takes a form that is sound and has its band. -/
theorem slotsSound_of_changeAt (hs : s.slotsSound) (hl : t.slots = changeAt s.slots n f) (ht : t.tables = s.tables)
    (hf : (f (s.slot n)).sound) (hband : (f (s.slot n)).band = currentBand s.tables (f (s.slot n))) : t.slotsSound :=
  (soundBut_none t).mp
    (soundBut_of_changeAt ((soundBut_none s).mpr hs) hl ht (fun _ => hf) (fun _ _ h => h) fun _ => hband)

end

theorem Regrades.soundBut {s t : State} (h : Regrades s t) {q : Slot → Prop} (hs : s.soundBut q) : t.soundBut q := by
  induction h with
  | refl => exact hs
  | counters _ ht hc ih =>
    intro n
    rw [← sound_core, ← band_core, hc, ht, sound_core, band_core]
    exact ih n
  | grade _ ht n st hp hst hl ih =>
    exact soundBut_of_changeAt ih hl ht (fun hr => turned_sound_of_proven _ hr hp hst) (fun _ _ h => h)
      fun _ => turned_band _ _ _

theorem Regrades.slotsSound {s t : State} (h : Regrades s t) (hs : s.slotsSound) : t.slotsSound :=
  (soundBut_none t).mp (h.soundBut ((soundBut_none s).mpr hs))

/-- What a band is computed from (R63 to R65). -/
theorem currentBand_congr {t : Tables} {r r' : SlotRecord} (hstate : r'.state = r.state) (hbinding : r'.binding = r.binding)
    (hlevel : r'.level = r.level) (hdebit : r'.pendingDebit = r.pendingDebit) : currentBand t r' = currentBand t r := by
  simp only [currentBand, SlotRecord.estimate, hstate, hbinding, hlevel, hdebit]

theorem slotsSound_of_eq {s t : State} (hs : s.slotsSound) (hl : t.slots = s.slots)
    (hc : t.tables.classes = s.tables.classes) : t.slotsSound := by
  have hband (r : SlotRecord) : currentBand t.tables r = currentBand s.tables r := by
    unfold currentBand
    rw [hc]
  intro n
  rw [hband, State.slot, hl]
  exact hs n

theorem setWatch_slotsSound {s : State} (hs : s.slotsSound) (n : Slot) (w : Watch) : (s.setWatch n w).slotsSound :=
  slotsSound_of_eq hs rfl rfl

theorem purge_slotsSound {s : State} (hs : s.slotsSound) (n : Slot) : (s.purge n).slotsSound := slotsSound_of_eq hs rfl rfl

theorem raiseSlot_slotsSound {s : State} (hs : s.slotsSound) (k : EventKind) (n : Slot) : (s.raiseSlot k n).slotsSound :=
  slotsSound_of_eq hs rfl rfl

theorem clearDrops_slotsSound {s : State} (hs : s.slotsSound) (n : Slot) : (s.clearDrops n).slotsSound := by
  unfold State.clearDrops
  exact slotsSound_of_eq hs (State.onSwath_slots s _) (congrArg Tables.classes (State.onSwath_tables s _))

/-! ### What is kept of a slot while it is judged -/

/-- A record keeps its binding and proven flag, an L once it has one, and its state but for the grade of a proven slot. -/
structure SlotRecord.Kin (r r' : SlotRecord) : Prop where
  binding : r'.binding = r.binding
  proven : r'.proven = r.proven
  level : r.level.isSome = true → r'.level.isSome = true
  state : r'.state = r.state ∨ r.state.isProven = true ∧ r'.state.isProven = true

theorem SlotRecord.Kin.trans {r r' r'' : SlotRecord} (h : r.Kin r') (g : r'.Kin r'') : r.Kin r'' where
  binding := g.binding.trans h.binding
  proven := g.proven.trans h.proven
  level := g.level ∘ h.level
  state := by
    rcases h.state with h | ⟨h, h'⟩ <;> rcases g.state with g | ⟨g, g'⟩
    · exact .inl (g.trans h)
    · exact .inr ⟨h ▸ g, g'⟩
    · exact .inr ⟨h, g ▸ h'⟩
    · exact .inr ⟨h, g'⟩

theorem SlotRecord.Kin.refl (r : SlotRecord) : r.Kin r := ⟨rfl, rfl, id, .inl rfl⟩

/-- A state that is not GENUINE or SUSPECT is kept. -/
theorem SlotRecord.Kin.state_eq {r r' : SlotRecord} (h : r.Kin r') (hr : r.state.isProven = false) : r'.state = r.state := by
  rcases h.state with h | ⟨h, _⟩
  · exact h
  · rw [hr] at h
    cases h

/-- A change of one slot's record. -/
theorem kin_of_changeAt {s t : State} {n : Slot} {f : SlotRecord → SlotRecord} (hl : t.slots = changeAt s.slots n f)
    (hf : (s.slot n).Kin (f (s.slot n))) (m : Slot) : (s.slot m).Kin (t.slot m) := by
  by_cases hm : m = n
  · subst hm
    rw [slot_of_changeAt hl]
    exact hf
  · rw [slot_of_changeAt_ne hl hm]
    exact .refl _

theorem Regrades.kin {s t : State} (h : Regrades s t) (n : Slot) : (s.slot n).Kin (t.slot n) := by
  induction h with
  | refl => exact .refl _
  | counters _ _ hc ih =>
    have h := hc n
    exact ih.trans ⟨(congrArg SlotRecord.binding h :), (congrArg SlotRecord.proven h :),
      fun hl => (congrArg (fun r => r.level.isSome) h :).trans hl, .inl (congrArg SlotRecord.state h :)⟩
  | grade _ _ m st hp hst hl ih =>
    exact ih.trans (kin_of_changeAt hl ⟨rfl, rfl, id, .inr ⟨hp, hst⟩⟩ n)

theorem recompute_kin (s : State) (n m : Slot) : (s.slot m).Kin ((s.recompute n).slot m) :=
  kin_of_changeAt (recompute_slots s n) ⟨rfl, rfl, id, .inl rfl⟩ m

/-! ### Metering -/

theorem meterGroup_slotsSound (record : List RecordLine) {s : State} (hs : s.slotsSound) (n : Slot) :
    (State.meterGroup record s n).slotsSound := by
  unfold State.meterGroup
  dsimp only
  split
  · exact hs
  · obtain ⟨d, h⟩ := meterInto_slots s (record.filter fun l => l.slot == n) n
    exact recompute_slotsSound (soundBut_of_account (hs.but _) h (moves_meterInto s _ n).tables id)

/-- The countdown of a proven slot may be set (R113). -/
theorem setCountdown_slotsSound {s : State} (hs : s.slotsSound) {n : Slot} (h : (s.slot n).state.isProven = true) (f : Nat → Nat) :
    (s.onSlot n fun r => { r with countdown := f r.countdown }).slotsSound := by
  obtain ⟨⟨hbinding, hunbound, hholdoff, _, hlevel⟩, hband⟩ := hs n
  refine slotsSound_of_changeAt hs (State.onSlot_slots s n _) rfl ⟨hbinding, hunbound, hholdoff, fun hnot => ?_, hlevel⟩
    (hband.trans (currentBand_congr rfl rfl rfl rfl).symm)
  exact absurd h (Bool.eq_false_iff.mp hnot)

theorem countDown_slotsSound {s : State} (hs : s.slotsSound) (n : Slot) : (s.countDown n).slotsSound := by
  unfold State.countDown
  dsimp only
  split
  · rename_i h
    obtain ⟨hproven, _⟩ := Bool.and_eq_true_iff.mp h
    have hcounted := setCountdown_slotsSound hs hproven (· - 1)
    split
    · exact (regrades_askChallenge _ n).slotsSound hcounted
    · exact hcounted
  · exact hs

theorem meterRecord_slotsSound {s : State} (hs : s.slotsSound) (record : List RecordLine) : (s.meterRecord record).slotsSound :=
  List.foldlRecOn allSlots _ hs fun _ ht n _ => meterGroup_slotsSound record ht n

theorem handOver_slotsSound {s : State} (hs : s.slotsSound) (d : Descriptor) : (s.handOver d).slotsSound := by
  unfold State.handOver
  dsimp only
  refine List.foldlRecOn allSlots _ ?_ fun _ ht n _ => countDown_slotsSound ht n
  exact (Regrades.foldl regrades_recheck allSlots _).slotsSound (meterRecord_slotsSound hs _)

/-! ### Changes of state -/

/-- The hold-off timer runs in HOLDOFF only. -/
theorem holdoff_stopped {s : State} (hs : s.slotsSound) {n : Slot} (h : (s.slot n).state ≠ .holdoff) :
    (s.slot n).holdoff = none := by
  obtain ⟨⟨_, _, hholdoff, _⟩, _⟩ := hs n
  exact Option.not_isSome_iff_eq_none.mp (mt hholdoff h)

theorem changeState_slotsSound {s : State} (hs : s.slotsSound) {n : Slot} {st : SlotState}
    (hbinding : st.allowsBinding (s.slot n).binding.isSome) (hstopped : (s.slot n).holdoff = none)
    (hst : st.isProven = false) : (s.changeState n st).slotsSound := by
  obtain ⟨⟨_, hunbound, _, hcountdown, _⟩, _⟩ := hs n
  refine slotsSound_of_changeAt hs (changeState_slots s n st) (moves_changeState s n st).tables ?_ (turned_band _ _ _)
  refine turned_sound _ hunbound hcountdown hbinding (fun hrun => ?_) fun h => absurd h (Bool.eq_false_iff.mp hst)
  rw [hstopped] at hrun
  cases hrun

theorem unbind_slotsSound {s : State} (hs : s.slotsSound) (n : Slot) {st : SlotState} (hst : st = .empty ∨ st = .foreign)
    (h : (s.slot n).state ≠ .holdoff) : (s.unbind n st).slotsSound := by
  obtain ⟨⟨_, _, _, hcountdown, _⟩, _⟩ := hs n
  refine slotsSound_of_changeAt hs (unbind_slots s n st) (moves_unbind s n st).tables ?_ (turned_band _ _ _)
  refine turned_sound _ (fun _ => ⟨rfl, rfl⟩) hcountdown ?_ (fun hrun => ?_) ?_
  · rcases hst with rfl | rfl <;> rfl
  · have hrun : (s.slot n).holdoff.isSome = true := hrun
    rw [holdoff_stopped hs h] at hrun
    cases hrun
  · rcases hst with rfl | rfl <;> exact nofun

theorem arrive_slotsSound {s : State} (hs : s.slotsSound) (n : Slot) : (s.arrive n).slotsSound := by
  have hwatched := setWatch_slotsSound hs n (.arriving (some s.tables.insertSettle))
  unfold State.arrive
  dsimp only
  split
  · rename_i hempty
    obtain ⟨⟨hbinding, _⟩, _⟩ := hs n
    rw [hempty] at hbinding
    have hsettling := raiseSlot_slotsSound (changeState_slotsSound (st := .settling) hwatched (n := n) hbinding
      (holdoff_stopped hs (by rw [hempty]; nofun)) rfl) .inserted n
    split
    · exact clearDrops_slotsSound hsettling n
    · exact hsettling
  · exact hwatched

/-- A record whose cartridge has left its socket (R94). -/
def SlotRecord.emptied (r : SlotRecord) : SlotRecord :=
  { r with allowance := 0, attempts := 0, round := 0, countdown := 0, proven := false, holdoff := none }

/-- A slot that leaves its socket is left as after reset, its residue aside (R90, R94, R95). -/
theorem leave_slotsSound {s : State} (hs : s.slotsSound) (n : Slot) : (s.leave n).slotsSound := by
  unfold State.leave
  split
  · exact hs
  · have hunbound := unbind_slots s n .empty
    have hslots := (State.onSlot_slots (s.unbind n .empty) n SlotRecord.emptied).trans
      ((congrArg (changeAt · n SlotRecord.emptied) hunbound).trans (changeAt_changeAt _ _ _ _))
    refine raiseSlot_slotsSound (slotsSound_of_changeAt hs hslots (moves_unbind s n .empty).tables ?_ rfl) .removed n
    exact ⟨rfl, fun _ => ⟨rfl, rfl⟩, nofun, fun _ => rfl, nofun⟩

theorem identify_slotsSound {s : State} (hs : s.slotsSound) {n : Slot} (h : (s.slot n).holdoff = none) (allowance : Nat) :
    (s.identify n allowance).slotsSound := by
  have hidentifying := changeState_slotsSound (st := .identifying) hs (n := n) trivial h rfl
  exact (Regrades.trans regrades_counters (regrades_place _ n _)).slotsSound hidentifying

theorem seat_slotsSound {s : State} (hs : s.slotsSound) (n : Slot) : (s.seat n).slotsSound := by
  have hwatched := setWatch_slotsSound hs n .seated
  unfold State.seat
  dsimp only
  split
  · rename_i hsettling
    exact identify_slotsSound hwatched (holdoff_stopped hs (by rw [hsettling]; nofun)) _
  · exact hwatched

theorem remove_slotsSound {s : State} (hs : s.slotsSound) (n : Slot) : (s.remove n).slotsSound :=
  leave_slotsSound (purge_slotsSound (setWatch_slotsSound hs n .quiet) n) n

theorem endHoldoff_slotsSound {s : State} (hs : s.slotsSound) (n : Slot) : (s.endHoldoff n).slotsSound := by
  obtain ⟨⟨hbinding, hunbound, _, hcountdown, hproven⟩, hband⟩ := hs n
  have hstopped : (s.onSlot n fun r => { r with holdoff := none }).slotsSound :=
    slotsSound_of_changeAt hs (State.onSlot_slots s n _) rfl ⟨hbinding, hunbound, nofun, hcountdown, hproven⟩
      (hband.trans (currentBand_congr rfl rfl rfl rfl).symm)
  exact identify_slotsSound hstopped (by rw [slot_onSlot]) _

/-! ### Failure and hold-off -/

theorem giveUp_slotsSound {s : State} (hs : s.slotsSound) {n : Slot} (h : (s.slot n).state ≠ .holdoff) :
    (s.giveUp n).slotsSound := by
  unfold State.giveUp
  dsimp only
  split
  · exact raiseSlot_slotsSound (unbind_slotsSound hs n (.inr rfl) h) .rejected n
  · rename_i hunbound
    exact raiseSlot_slotsSound
      (changeState_slotsSound (st := .foreign) hs (Bool.eq_false_iff.mpr hunbound) (holdoff_stopped hs h) rfl) .rejected n

/-- A record held off for its next round (R109). -/
def State.heldOff (s : State) (n : Slot) (r : SlotRecord) : SlotRecord :=
  { r with
    round := min ((s.slot n).round + 1) 255
    attempts := 0
    countdown := 0
    holdoff := some (s.tables.holdoffBase * holdoffMultiplier (min ((s.slot n).round + 1) 255)) }

theorem holdOff_slotsSound {s : State} (hs : s.slotsSound) (n : Slot) : (s.holdOff n).slotsSound := by
  obtain ⟨⟨_, hunbound, _, _, _⟩, _⟩ := hs n
  have hslots := (changeState_slots (s.onSlot n (s.heldOff n)) n .holdoff).trans (changeAt_changeAt _ _ _ _)
  refine raiseSlot_slotsSound (slotsSound_of_changeAt hs hslots (moves_changeState _ n _).tables ?_ (turned_band _ _ _)) .holdoff n
  exact turned_sound _ hunbound (fun _ => rfl) trivial (fun _ => rfl) nofun

/-- A failure in a state in which transactions are made (R107). -/
theorem fail_slotsSound {s : State} (hs : s.slotsSound) {n : Slot} (h : (s.slot n).state ≠ .holdoff) (k : BusKind) :
    (s.fail n k).slotsSound := by
  have hcounted : (s.onSlot n fun r => { r with attempts := (s.slot n).attempts + 1 }).slotsSound :=
    (Regrades.slotsSound regrades_counters hs)
  unfold State.fail
  dsimp only
  split
  · unfold State.retry
    split
    · exact (regrades_askChallenge _ n).slotsSound hcounted
    · exact (regrades_place _ n _).slotsSound hcounted
  · unfold State.exhaust
    split
    · exact giveUp_slotsSound hcounted (by rw [slot_onSlot]; exact h)
    · exact holdOff_slotsSound hcounted n

theorem retry_slotsSound {s : State} (hs : s.slotsSound) (n : Slot) (k : BusKind) : (s.retry n k).slotsSound := by
  unfold State.retry
  split
  · exact (regrades_askChallenge s n).slotsSound hs
  · exact (regrades_place s n _).slotsSound hs

end Sys2Proof.Machine
end

section
/-! PROOFS. The outcomes of transactions and the loads of tables keep the slots' records sound. -/

namespace Sys2Proof.Machine

/-! ### Identification -/

theorem reject_slotsSound {s : State} (hs : s.slotsSound) {n : Slot} {st : SlotState}
    (hbinding : st.allowsBinding (s.slot n).binding.isSome) (h : (s.slot n).state ≠ .holdoff) (hst : st.isProven = false) :
    (s.reject n st).slotsSound :=
  raiseSlot_slotsSound (changeState_slotsSound hs hbinding (holdoff_stopped hs h) hst) .rejected n

theorem settleBinding_slotsSound {s : State} (hs : s.slotsSound) {n : Slot} (hbound : (s.slot n).binding.isSome = true)
    (h : (s.slot n).state ≠ .holdoff) (id : Identity) (c : Fin 16) (reused : Bool) : (s.settleBinding n id c reused).slotsSound := by
  unfold State.settleBinding
  split
  · exact reject_slotsSound hs hbound h rfl
  · split
    · exact reject_slotsSound hs hbound h rfl
    · exact (regrades_askChallenge _ n).slotsSound
        (changeState_slotsSound (st := .authenticating) hs hbound (holdoff_stopped hs h) rfl)

/-- A record newly bound (R99). -/
def SlotRecord.bound (b : Binding) (r : SlotRecord) : SlotRecord := { r with binding := some b, level := none, proven := false }

theorem bindTo_slots (s : State) (n : Slot) (id : Identity) (c : Fin 16) :
    (s.bindTo n id c).slots = changeAt s.slots n (SlotRecord.bound ⟨id, c⟩) := rfl

/-- Binding keeps the records sound and leaves the slot bound and IDENTIFYING (R99, R135 to R140). -/
theorem bind_slotsSound {s : State} (hs : s.slotsSound) {n : Slot} (h : (s.slot n).state = .identifying) (id : Identity)
    (c : Fin 16) : (s.bind n id c).slotsSound ∧ ((s.bind n id c).slot n).binding.isSome = true
      ∧ ((s.bind n id c).slot n).state = .identifying := by
  obtain ⟨⟨_, _, hholdoff, hcountdown, _⟩, hband⟩ := hs n
  have hstate : ((s.slot n).bound ⟨id, c⟩).state = .identifying := h
  have hnone (r : SlotRecord) (hr : r.state = .identifying) : currentBand s.tables r = .none := by
    simp [currentBand, SlotRecord.estimate, hr, SlotState.isProven]
  have hbound : (s.bindTo n id c).slotsSound := by
    refine slotsSound_of_changeAt hs (bindTo_slots s n id c) rfl ?_ ?_
    · refine ⟨?_, nofun, hholdoff, hcountdown, fun hp => ?_⟩
      · rw [hstate]
        trivial
      · rw [hstate] at hp
        cases hp
    · rw [hnone _ hstate]
      exact hband.trans (hnone _ h)
  have hregrades : Regrades (s.bindTo n id c) (s.bind n id c) := (regrades_bindingChecks _ _ _ _).trans (regrades_endBinding _ _ n)
  have hkin := hregrades.kin n
  rw [slot_of_changeAt (bindTo_slots s n id c)] at hkin
  refine ⟨hregrades.slotsSound hbound, ?_, ?_⟩
  · rw [hkin.binding]
    rfl
  · rw [hkin.state_eq (by rw [hstate]; rfl), hstate]

theorem identification_slotsSound {s : State} (hs : s.slotsSound) {n : Slot} (h : (s.slot n).state = .identifying)
    (hunbound : (s.slot n).binding = none) (id : Identity) : (s.identification n id).slotsSound := by
  have hcleared : (s.onSlot n fun r => { r with attempts := 0 }).slotsSound := Regrades.slotsSound regrades_counters hs
  have hstate : ((s.onSlot n fun r => { r with attempts := 0 }).slot n).state = .identifying := by rw [slot_onSlot]; exact h
  have hne : ((s.onSlot n fun r => { r with attempts := 0 }).slot n).state ≠ .holdoff := by rw [hstate]; nofun
  have hforeign : ((s.onSlot n fun r => { r with attempts := 0 }).reject n .foreign).slotsSound := by
    refine reject_slotsSound hcleared ?_ hne rfl
    rw [slot_onSlot]
    exact congrArg Option.isSome hunbound
  unfold State.identification
  dsimp only
  split
  · exact hforeign
  · split
    · exact hforeign
    · obtain ⟨hbind, hbound, hidentifying⟩ := bind_slotsSound hcleared hstate id _
      exact settleBinding_slotsSound hbind hbound (by rw [hidentifying]; nofun) id _ _

theorem reidentification_slotsSound {s : State} (hs : s.slotsSound) {n : Slot} (h : (s.slot n).state ≠ .holdoff) {b : Binding}
    (hbound : (s.slot n).binding = some b) (id : Identity) : (s.reidentification n b id).slotsSound := by
  unfold State.reidentification
  split
  · have hcleared : (s.onSlot n fun r => { r with attempts := 0 }).slotsSound := Regrades.slotsSound regrades_counters hs
    refine (regrades_askChallenge _ n).slotsSound (changeState_slotsSound (st := .authenticating) hcleared ?_ ?_ rfl)
    · rw [slot_onSlot]
      exact congrArg Option.isSome hbound
    · exact holdoff_stopped hcleared (by rw [slot_onSlot]; exact h)
  · exact fail_slotsSound hs h .identify

theorem identifyOutcome_slotsSound {s : State} (hs : s.slotsSound) (n : Slot) (outcome : BusOutcome) :
    (s.identifyOutcome n outcome).slotsSound := by
  unfold State.identifyOutcome
  split
  · rename_i h
    have hne : (s.slot n).state ≠ .holdoff := by rw [h]; nofun
    split
    · split
      · exact identification_slotsSound hs h ‹_› _
      · exact reidentification_slotsSound hs hne ‹_› _
    · exact fail_slotsSound hs hne .identify
    · exact retry_slotsSound hs n .identify
  · exact hs

/-! ### A successful challenge -/

/-- A record whose account is lowered by D (R123, R127). -/
def SlotRecord.lowered (d : Nat) (r : SlotRecord) : SlotRecord :=
  { r with pendingDebit := r.pendingDebit - d, level := r.level.map fun l => l - d }

theorem lowered_zero (r : SlotRecord) : r.lowered 0 = r := by
  simp [SlotRecord.lowered]

theorem lowered_sound {r : SlotRecord} (d : Nat) (h : r.sound) : (r.lowered d).sound := by
  obtain ⟨hbinding, hunbound, hholdoff, hcountdown, hproven⟩ := h
  refine ⟨hbinding, fun hb => ?_, hholdoff, hcountdown, fun hp => ?_⟩
  · obtain ⟨hlevel, hnot⟩ := hunbound hb
    exact ⟨by simp [SlotRecord.lowered, hlevel], hnot⟩
  · obtain ⟨hp, hlevel⟩ := hproven hp
    exact ⟨hp, by simpa [SlotRecord.lowered] using hlevel⟩

theorem lowered_kin (r : SlotRecord) (d : Nat) : r.Kin (r.lowered d) :=
  ⟨rfl, rfl, fun h => by simpa [SlotRecord.lowered] using h, .inl rfl⟩

theorem followLevel_slots (s : State) (n : Slot) : (s.followLevel n).slots = s.slots := by
  unfold State.followLevel
  split
  · exact onBoundEntry_slots s n _
  · rfl

theorem markExhausted_slots (s : State) (n : Slot) : (s.markExhausted n).slots = s.slots := by
  unfold State.markExhausted
  split
  · exact onBoundEntry_slots s n _
  · rfl

theorem lowerAccount_slots (s : State) (n : Slot) (d : Nat) :
    (s.lowerAccount n d).slots = changeAt s.slots n (SlotRecord.lowered d) := by
  rw [State.lowerAccount, reEvaluate_slots, markExhausted_slots, followLevel_slots]
  rfl

theorem resolve_slots (s : State) (n : Slot) (r : Resolution) :
    ∃ d, (s.resolve n r).slots = changeAt s.slots n (SlotRecord.lowered d) := by
  have unchanged {l : Vector SlotRecord 12} (h : l = s.slots) : ∃ d, l = changeAt s.slots n (SlotRecord.lowered d) :=
    ⟨0, h.trans (changeAt_of_eq (lowered_zero _)).symm⟩
  cases r with
  | nothing => exact unchanged rfl
  | slotApplied d =>
    refine ⟨d, (State.onCommit_slots _ _ _).trans ((lowerAccount_slots _ n d).trans ?_)⟩
    rw [onBoundEntry_slots]
  | slotNotApplied => exact unchanged ((State.onCommit_slots _ _ _).trans (onBoundEntry_slots s n _))
  | entryApplied d => exact unchanged (onBoundEntry_slots s n _)
  | entryNotApplied => exact unchanged (onBoundEntry_slots s n _)

/-- A record with the level L and the pending debit given. -/
def SlotRecord.accounted (level debit : Nat) (r : SlotRecord) : SlotRecord := { r with level := some level, pendingDebit := debit }

theorem accounted_sound {r : SlotRecord} (level debit : Nat) (hbound : r.binding.isSome = true) (h : r.sound) :
    (r.accounted level debit).sound := by
  obtain ⟨hbinding, _, hholdoff, hcountdown, hproven⟩ := h
  refine ⟨hbinding, fun hb => ?_, hholdoff, hcountdown, fun hp => ⟨(hproven hp).1, rfl⟩⟩
  have hb' : r.binding = none := hb
  rw [hb'] at hbound
  cases hbound

theorem accounted_kin (r : SlotRecord) (level debit : Nat) : r.Kin (r.accounted level debit) := ⟨rfl, rfl, fun _ => rfl, .inl rfl⟩

theorem checkLevel_slots (s : State) (n : Slot) (b : Binding) (e : Entry) (first : Bool) (reported : Nat) :
    ∃ l, (s.checkLevel n b e first reported).2.slots = changeAt s.slots n fun r => { r with level := some l } := by
  unfold State.checkLevel
  dsimp only
  split
  · exact ⟨_, rfl⟩
  · split <;> split <;> exact ⟨_, rfl⟩

theorem changeAt_congr {α : Type} {k : Nat} {v : Vector α k} {i : Fin k} {f g : α → α} (h : f v[i] = g v[i]) :
    changeAt v i f = changeAt v i g := by
  rw [changeAt, changeAt, h]

/-- The judgement of the reported level gives the slot an L, regrades at most, and then recomputes the slot's band (R143). -/
theorem judgeLevel_cases {s : State} {n : Slot} {b : Binding} {e : Entry} (hb : (s.slot n).binding = some b)
    (he : s.entry b.identity.serial = some e) (reported : Nat) :
    ∃ u w level debit, u.slots = changeAt s.slots n (SlotRecord.accounted level debit) ∧ u.tables = s.tables ∧ Regrades u w
      ∧ s.judgeLevel n reported = w.recompute n := by
  obtain ⟨l, hl⟩ := checkLevel_slots s n b e (!(s.slot n).proven) reported
  have ht := (moves_checkLevel s n b e (!(s.slot n).proven) reported).tables
  have hjudge (u : State) : Regrades u (((((u.followLevel n).markExhausted n).adjustCount e.serial
      (s.checkLevel n b e (!(s.slot n).proven) reported).1)).settleMark e.serial) :=
    (((regrades_followLevel u n).trans (regrades_markExhausted _ n)).trans (regrades_adjustCount _ _ _)).trans
      (regrades_settleMark _ _)
  simp only [State.judgeLevel, hb, he]
  split
  · refine ⟨_, _, l, addHeld (s.slot n).pendingDebit
      (match (s.checkLevel n b e (!(s.slot n).proven) reported).2.entry e.serial with
        | some e => e.carried.getD 0
        | none => 0), ?_, ?_, hjudge _, rfl⟩
    · rw [State.loadCarried, reEvaluate_slots, State.onEntry, State.onKnown_slots, State.onSlot_slots, hl, changeAt_changeAt]
      exact changeAt_congr rfl
    · exact (moves_loadCarried _ n _).tables.trans ht
  · exact ⟨_, _, l, (s.slot n).pendingDebit, hl.trans (changeAt_congr rfl), ht, hjudge _, rfl⟩

theorem judgeLevel_slotsSound {s : State} {n : Slot} (hs : s.soundBut (· = n)) {b : Binding} {e : Entry}
    (hb : (s.slot n).binding = some b) (he : s.entry b.identity.serial = some e) (reported : Nat) :
    (s.judgeLevel n reported).slotsSound ∧ (s.slot n).Kin ((s.judgeLevel n reported).slot n)
      ∧ ((s.judgeLevel n reported).slot n).level.isSome = true := by
  obtain ⟨u, w, level, debit, hl, ht, hregrades, h⟩ := judgeLevel_cases hb he reported
  have haccounted := soundBut_of_account hs hl ht (accounted_sound level debit (by rw [hb]; rfl))
  have hkin := (hregrades.kin n).trans (recompute_kin w n n)
  rw [slot_of_changeAt hl] at hkin
  rw [h]
  exact ⟨recompute_slotsSound (hregrades.soundBut haccounted), (accounted_kin _ _ _).trans hkin, hkin.level rfl⟩

/-- The cartridge bound to a slot has its entry (R133). -/
theorem entry_of_bound {s : State} (hs : s.bindingsAgree) {n : Slot} {b : Binding} (hb : (s.slot n).binding = some b) :
    ∃ e, s.entry b.identity.serial = some e := by
  obtain ⟨hbound, _⟩ := hs
  obtain ⟨e, he, hserial, _⟩ := hbound n b.identity.serial (by rw [State.boundSerial, hb]; rfl)
  exact Option.isSome_iff_exists.mp (List.find?_isSome.mpr ⟨e, he, beq_iff_eq.mpr hserial⟩)

/-- A slot in AUTHENTICATING that has an L becomes proven; one that is proven stays so (R105). -/
theorem enterProven_slotsSound {s : State} (hs : s.slotsSound) {n : Slot}
    (h : (s.slot n).state = .authenticating ∨ (s.slot n).state.isProven = true) (hlevel : (s.slot n).level.isSome = true) :
    (s.enterProven n).slotsSound ∧ ((s.enterProven n).slot n).state.isProven = true := by
  unfold State.enterProven
  split
  · rename_i hauth
    obtain ⟨⟨hbinding, hunbound, hholdoff, hcountdown, _⟩, _⟩ := hs n
    rw [hauth] at hbinding hholdoff
    set st := if s.heldSuspect n then SlotState.suspect else SlotState.genuine with hst
    have hproven : st.isProven = true := by
      rw [hst]
      split <;> rfl
    have hbound : (s.slot n).binding ≠ none := by
      intro hnone
      rw [hnone] at hbinding
      cases hbinding
    have hslots := (changeState_slots ((s.raiseSlot .genuine n).onSlot n fun r => { r with proven := true }) n st).trans
      (changeAt_changeAt _ _ _ _)
    have htables := (moves_changeState ((s.raiseSlot .genuine n).onSlot n fun r => { r with proven := true }) n st).tables
    refine ⟨slotsSound_of_changeAt hs hslots htables ?_ (turned_band _ _ _), ?_⟩
    · refine turned_sound _ (fun hnone => absurd hnone hbound) hcountdown ?_ (fun hrun => ?_) fun _ => ⟨rfl, hlevel⟩
      · cases hs : st <;> rw [hs] at hproven <;> cases hproven <;> exact hbinding
      · cases hholdoff hrun
    · rw [slot_of_changeAt hslots]
      exact hproven
  · exact ⟨hs, h.resolve_left ‹_›⟩

theorem regrades_resolutionEnd (s : State) (n : Slot) (r : Resolution) : Regrades s (s.resolutionEnd n r) := by
  cases r with
  | slotApplied _ => exact regrades_settleEnd s n
  | slotNotApplied => exact (regrades_askCommit s .notApplied n).trans regrades_same
  | entryNotApplied => exact regrades_askCommit s .notApplied n
  | nothing | entryApplied _ => exact .refl

/-- Steps 2 and 3 of a successful challenge leave the records sound, the slot's state but for its grade, and an L (R105, R127, R143). -/
theorem resolve_judgeLevel_slotsSound {s : State} (hagree : s.bindingsAgree) (hs : s.slotsSound) {n : Slot} {b : Binding}
    (hb : (s.slot n).binding = some b) (r : Resolution) (level : Nat) :
    ((s.resolve n r).judgeLevel n level).slotsSound ∧ (s.slot n).Kin (((s.resolve n r).judgeLevel n level).slot n)
      ∧ (((s.resolve n r).judgeLevel n level).slot n).level.isSome = true := by
  obtain ⟨d, hslots⟩ := resolve_slots s n r
  have hresolved := soundBut_of_account (hs.but (· = n)) hslots (moves_resolve s n r).tables (lowered_sound d)
  have hkin := kin_of_changeAt hslots (lowered_kin _ d) n
  have hbound := hkin.binding.trans hb
  obtain ⟨e, he⟩ := entry_of_bound ((moves_resolve s n r).bindingsAgree hagree) hbound
  obtain ⟨hjudged, hkin', hlevel⟩ := judgeLevel_slotsSound hresolved hbound he level
  exact ⟨hjudged, hkin.trans hkin', hlevel⟩

theorem succeed_slotsSound {s : State} (hagree : s.bindingsAgree) (hs : s.slotsSound) {n : Slot}
    (h : (s.slot n).state = .authenticating ∨ (s.slot n).state.isProven = true) {b : Binding} (hb : (s.slot n).binding = some b)
    (level : Nat) : (s.succeed n level).slotsSound := by
  have hcleared : Regrades s (s.onSlot n fun r => { r with attempts := 0, round := 0 }) := regrades_counters
  obtain ⟨hjudged, hkin, hlevel⟩ := resolve_judgeLevel_slotsSound ((moves_slot s n _).bindingsAgree hagree)
    (hcleared.slotsSound hs) ((hcleared.kin n).binding.trans hb) (s.resolution n level) level
  have hstate := ((hcleared.kin n).trans hkin).state
  obtain ⟨hentered, hproven⟩ := enterProven_slotsSound hjudged
    (hstate.elim (fun hsame => hsame.symm ▸ h) fun hproven => .inr hproven.2) hlevel
  have hended := (regrades_resolutionEnd _ n (s.resolution n level)).slotsSound
    (setCountdown_slotsSound hentered hproven fun _ => s.tables.interval)
  unfold State.succeed
  dsimp only
  split
  · exact (regrades_recheck _ n).slotsSound hended
  · exact hended

theorem challengeOutcome_slotsSound {s : State} (hagree : s.bindingsAgree) (hs : s.slotsSound) (n : Slot) (nonce : Word)
    (outcome : BusOutcome) : (s.challengeOutcome n nonce outcome).slotsSound := by
  unfold State.challengeOutcome
  split
  · rename_i h
    have hne {r : SlotRecord} (hr : r.state = .authenticating ∨ r.state.isProven = true) : r.state ≠ .holdoff := by
      intro hholdoff
      rw [hholdoff] at hr
      rcases hr with hr | hr <;> cases hr
    split
    · split
      · rename_i b hb
        split
        · exact succeed_slotsSound hagree hs h hb _
        · have hregrades := regrades_addWeight s b.identity.serial s.tables.tagFailWeight
          refine fail_slotsSound (hregrades.slotsSound hs) (hne ?_) .challenge
          exact (hregrades.kin n).state.elim (fun hsame => hsame.symm ▸ h) fun hproven => .inr hproven.2
      · exact hs
    · exact fail_slotsSound hs (hne h) .challenge
    · exact retry_slotsSound hs n .challenge
  · exact hs

/-! ### The outcome of a DEBIT -/

theorem confirmDebit_slotsSound {s : State} (hs : s.slotsSound) (n : Slot) (d newLevel : Nat) :
    (s.confirmDebit n d newLevel).slotsSound := by
  have hlowered := soundBut_of_account (hs.but (· = n)) (lowerAccount_slots s n d) (moves_lowerAccount s n d).tables
    (lowered_sound d)
  have hchecked : Regrades (s.lowerAccount n d) (((s.lowerAccount n d).commitIdle n).checkConfirmation n newLevel) :=
    Regrades.trans regrades_same (regrades_checkConfirmation (State.commitIdle _ n) n newLevel)
  exact (regrades_settleEnd _ n).slotsSound (recompute_slotsSound (hchecked.soundBut hlowered))

theorem mismatchDebit_slotsSound {s : State} (hs : s.slotsSound) (n : Slot) (d : Nat) (serial : Word) :
    (s.mismatchDebit n d serial).slotsSound := by
  have hlowered := soundBut_of_account (hs.but (· = n)) (lowerAccount_slots s n d) (moves_lowerAccount s n d).tables
    (lowered_sound d)
  have hasked : Regrades (s.lowerAccount n d)
      ((((s.lowerAccount n d).addWeight serial s.tables.tagFailWeight).commitIdle n).askChallenge n) :=
    ((regrades_addWeight _ serial _).trans regrades_same).trans (regrades_askChallenge (State.commitIdle _ n) n)
  exact (regrades_settleEnd _ n).slotsSound (recompute_slotsSound (hasked.soundBut hlowered))

theorem regrades_settleOrphan (s : State) (o : Orphan) (outcome : BusOutcome) : Regrades s (s.settleOrphan o outcome) := by
  unfold State.settleOrphan
  dsimp only
  split
  · refine regrades_ite (fun _ => regrades_same) fun _ => ?_
    exact Regrades.trans regrades_same (regrades_addWeight (State.onEntry (s.setOrphan none) o.serial _) _ _)
  · exact regrades_same
  · exact regrades_same

theorem regrades_doubtDebit (s : State) (n : Slot) (d preLevel : Nat) : Regrades s (s.doubtDebit n d preLevel) :=
  Regrades.trans regrades_same (regrades_askChallenge (State.raiseSlot (s.onCommit n _) .commitInDoubt n) n)

theorem debitOutcome_slotsSound {s : State} (hs : s.slotsSound) (n : Slot) (outcome : BusOutcome) :
    (s.debitOutcome n outcome).slotsSound := by
  unfold State.debitOutcome
  split
  · exact (regrades_settleOrphan s _ outcome).slotsSound hs
  · split
    · split
      · split
        · exact confirmDebit_slotsSound hs n _ _
        · exact mismatchDebit_slotsSound hs n _ _
      · exact (regrades_doubtDebit s n _ _).slotsSound hs
      · exact (regrades_doubtDebit s n _ _).slotsSound hs
    · exact hs

theorem deliver_slotsSound {s : State} (hagree : s.bindingsAgree) (hs : s.slotsSound) (f : Flight) (outcome : BusOutcome) :
    (s.deliver f outcome).slotsSound := by
  unfold State.deliver
  split
  · exact debitOutcome_slotsSound hs _ outcome
  · split
    · exact hs
    · exact identifyOutcome_slotsSound hs _ outcome
  · split
    · exact hs
    · exact challengeOutcome_slotsSound hagree hs _ _ outcome

/-! ### Loads of tables -/

theorem disableSlot_slotsSound {s : State} (hs : s.slotsSound) (n : Slot) : (s.disableSlot n).slotsSound := by
  have hwatched := setWatch_slotsSound hs n .disabled
  have hleft := leave_slotsSound (purge_slotsSound hwatched n) n
  unfold State.disableSlot
  split
  · exact hleft
  · exact hleft
  · exact hleft
  · exact hwatched

theorem enableSlot_slotsSound {s : State} (hs : s.slotsSound) (n : Slot) : (s.enableSlot n).slotsSound := by
  have hwatched := setWatch_slotsSound hs n .quiet
  unfold State.enableSlot
  dsimp only
  split
  · exact arrive_slotsSound hwatched n
  · exact hwatched

theorem socketLoaded_slotsSound (before : Vector SocketConfig 12) {s : State} (hs : s.slotsSound) (n : Slot) :
    (State.socketLoaded before s n).slotsSound := by
  unfold State.socketLoaded
  split
  · exact disableSlot_slotsSound hs n
  · exact enableSlot_slotsSound hs n
  · exact hs

/-- The slots that a load of the genuine class table recomputes: those proven whose class was written (R69). -/
def SlotRecord.reclassed (first written : Nat) (r : SlotRecord) : Prop :=
  r.state.isProven = true ∧ ∃ b, r.binding = some b ∧ first ≤ b.classIndex.val ∧ b.classIndex.val < first + written

/-- A load of the class table leaves the marks of the classes that it does not write. -/
theorem currentBand_writeFrom {t : Tables} {first written : Nat} {xs : List ClassEntry} (hxs : xs.length ≤ written) {r : SlotRecord}
    (h : ¬ r.reclassed first written) :
    currentBand { t with classes := writeFrom t.classes first xs } r = currentBand t r := by
  unfold currentBand
  cases he : r.estimate with
  | none => rfl
  | some x =>
    cases hb : r.binding with
    | none => rfl
    | some b =>
      have hproven : r.state.isProven = true := by
        by_contra hnot
        simp [SlotRecord.estimate, hnot] at he
      have hclass : (writeFrom t.classes first xs)[b.classIndex] = t.classes[b.classIndex] := by
        simp only [writeFrom, Fin.getElem_fin, Vector.getElem_ofFn]
        split
        · rename_i hfirst
          refine List.getD_eq_default _ _ (hxs.trans ?_)
          by_contra hlt
          exact h ⟨hproven, b, hb, hfirst, by omega⟩
        · rfl
      simp only [hclass]

/-- One slot's turn in a load of the class table: its L is held at the ceiling and its band recomputed, or it is not concerned. -/
theorem classLoaded_cases (first written : Nat) (s : State) (n : Slot) :
    (¬ (s.slot n).reclassed first written ∧ State.classLoaded first written s n = s)
      ∨ ∃ ceiling, (State.classLoaded first written s n).slots = changeAt s.slots n
          (SlotRecord.banded s.tables ∘ fun r => { r with level := r.level.map fun l => min l ceiling }) := by
  unfold State.classLoaded
  split
  · rename_i b hb
    split
    · refine .inr ⟨s.tables.classes[b.classIndex].ceiling, ?_⟩
      have htables := (moves_followLevel (s.onSlot n fun r =>
        { r with level := r.level.map fun l => min l s.tables.classes[b.classIndex].ceiling }) n).tables
      rw [reEvaluate_slots, recompute_slots, followLevel_slots, htables, State.onSlot_slots, State.onSlot_tables, changeAt_changeAt]
    · rename_i hnot
      refine .inl ⟨?_, rfl⟩
      rintro ⟨hproven, b', hb', hfirst, hlast⟩
      rw [hb] at hb'
      cases hb'
      exact hnot ⟨hproven, hfirst, hlast⟩
  · rename_i hb
    refine .inl ⟨?_, rfl⟩
    rintro ⟨_, b, hb', _⟩
    rw [hb] at hb'
    cases hb'

/-- The slots of a list, taken one after the other, need no longer be left aside. -/
theorem classesLoaded_slotsSound (first written : Nat) (ns : List Slot) {s : State}
    (hs : s.soundBut fun m => m ∈ ns ∧ (s.slot m).reclassed first written) :
    (ns.foldl (State.classLoaded first written) s).slotsSound := by
  induction ns generalizing s with
  | nil => exact (soundBut_none s).mp (hs.mono fun _ h => absurd h.1 List.not_mem_nil)
  | cons n ns ih =>
    refine ih ?_
    rcases classLoaded_cases first written s n with ⟨hnot, h⟩ | ⟨ceiling, h⟩
    · rw [h]
      refine hs.mono fun m ⟨hm, hre⟩ => ⟨(List.mem_cons.mp hm).resolve_left ?_, hre⟩
      rintro rfl
      exact hnot hre
    · refine soundBut_of_changeAt hs h (moves_classLoaded first written s n).tables (fun hr => ?_) (fun m hm ⟨hmem, hre⟩ => ?_)
        fun _ => banded_band _ _
      · obtain ⟨hbinding, hunbound, hholdoff, hcountdown, hproven⟩ := hr
        refine ⟨hbinding, fun hb => ?_, hholdoff, hcountdown, fun hp => ?_⟩
        · obtain ⟨hlevel, hnot⟩ := hunbound hb
          exact ⟨by simp [SlotRecord.banded, hlevel], hnot⟩
        · obtain ⟨hp, hlevel⟩ := hproven hp
          exact ⟨hp, by simpa [SlotRecord.banded] using hlevel⟩
      · rw [slot_of_changeAt_ne h hm]
        exact ⟨(List.mem_cons.mp hmem).resolve_left hm, hre⟩

/-- A load of a table keeps the slots' records sound (R69, R78, R96, R153). -/
theorem Loads.slotsSound {s t : State} {first written : Nat} (h : Loads s first written t) (hs : s.slotsSound) : t.slotsSound := by
  cases h with
  | staged _ => exact slotsSound_of_eq hs rfl rfl
  | keys _ => exact slotsSound_of_eq hs rfl rfl
  | sockets f =>
    have hloaded : (s.onTables fun t => { t with sockets := f t.sockets }).slotsSound := slotsSound_of_eq hs rfl rfl
    exact List.foldlRecOn allSlots _ hloaded fun _ ht n _ => socketLoaded_slotsSound _ ht n
  | settings v =>
    have hloaded : (s.onTables fun t => { t with settings := v }).slotsSound := slotsSound_of_eq hs rfl rfl
    exact (regrades_settingsLoaded _).slotsSound hloaded
  | classes xs hxs =>
    refine classesLoaded_slotsSound first written allSlots fun n => ⟨(hs n).1, fun hnot => ?_⟩
    have hre : ¬ (s.slot n).reclassed first written := fun hre => hnot ⟨mem_allSlots n, hre⟩
    rw [State.onTables_tables, State.slot, State.onTables_slots, ← State.slot, currentBand_writeFrom hxs hre]
    exact (hs n).2

end Sys2Proof.Machine
end

section
/-! PROOFS. What a command does to the slots, the list and the tables they are judged by, in whole operations: a property that looks at
these alone, and that every operation, reset and start-up keep (`KeptWhole`), is kept by every command. Where `Kept` asks that each
primitive change keeps the property, this leaves an operation free to break it on its way. -/

namespace Sys2Proof.Machine

/-! ### The operations -/

/-- The slots, the list, and the tables that they are judged by. -/
structure State.Register where
  slots : Vector SlotRecord 12
  known : List Entry
  classes : Vector ClassEntry 16
  settings : Vector Nat 24

def State.register (s : State) : State.Register := ⟨s.slots, s.known, s.tables.classes, s.tables.settings⟩

/-- The operations by which commands change slots and list. -/
inductive Operation (s : State) : State → Prop
  | handOver (d : Descriptor) : Operation s (s.handOver d)
  | deliver (f : Flight) (outcome : BusOutcome) : Operation s (s.deliver f outcome)
  | askChallenge (n : Slot) : Operation s (s.askChallenge n)
  | askCommit (cause : CommitCause) (n : Slot) : Operation s (s.askCommit cause n)
  | parkSlot (n : Slot) : Operation s (s.parkSlot n)
  | linePresent (n : Slot) : Operation s (s.linePresent n)
  | seat (n : Slot) : Operation s (s.seat n)
  | remove (n : Slot) : Operation s (s.remove n)
  | endHoldoff (n : Slot) : Operation s (s.endHoldoff n)
  | startArrival (n : Slot) : Operation s (s.startArrival n)
  | loads {t : State} (first written : Nat) (h : Loads s first written t) : Operation s t

/-- Every operation is a sequence of primitive changes, after a change of tables where it is a load. -/
theorem Operation.moves {s t : State} (h : Operation s t) :
    ∃ u, Moves u t ∧ u.residue = s.residue ∧ u.slots = s.slots ∧ u.known = s.known := by
  have alone {t : State} (m : Moves s t) : ∃ u, Moves u t ∧ u.residue = s.residue ∧ u.slots = s.slots ∧ u.known = s.known :=
    ⟨s, m, rfl, rfl, rfl⟩
  cases h with
  | handOver d => exact alone (moves_handOver s d)
  | deliver f outcome => exact alone (moves_deliver s f outcome)
  | askChallenge n => exact alone (moves_askChallenge s n)
  | askCommit cause n => exact alone (moves_askCommit s cause n)
  | parkSlot n => exact alone (moves_parkSlot s n)
  | linePresent n => exact alone (moves_linePresent s n)
  | seat n => exact alone (moves_seat s n)
  | remove n => exact alone (moves_remove s n)
  | endHoldoff n => exact alone (moves_endHoldoff s n)
  | startArrival n => exact alone (moves_startArrival s n)
  | loads _ _ h => exact h.moves

/-- A property that looks at `State.register` alone and is kept by every operation, by reset and by start-up. -/
structure KeptWhole (p : State → Prop) : Prop where
  register : ∀ s t : State, p s → t.register = s.register → p t
  operation : ∀ s t : State, Operation s t → p s → p t
  reset : ∀ (s : State) (cause : ResetCause), p s → p (s.assertReset cause)
  started : ∀ (s : State) (straps : BitVec 4), p (s.loaded straps)

/-! ### What leaves the register -/

theorem register_of_inner {s t : State} (h : t.inner = s.inner) : t.register = s.register := by
  obtain ⟨_, _, hslots, hknown, htables, _⟩ := State.Inner.mk.inj h
  rw [State.register, State.register, hslots, hknown, htables]

theorem recordOpening_register (s : State) (payload : List Byte) : (s.promote.recordOpening payload).register = s.register := by
  have hsettings : s.promote.tables.settings = s.tables.settings := by rw [promote_tables]
  obtain ⟨t, d, u, h, hclasses⟩ := promote_eq s
  rw [h] at hsettings ⊢
  change State.Register.mk s.slots s.known t.classes t.settings = _
  rw [hclasses, show t.settings = s.tables.settings from hsettings]
  rfl

theorem takeFire_register (s : State) (f : RxFrame) : (s.takeFire f).register = s.register := by
  obtain ⟨w, l, u, h⟩ := takeFire_eq s f
  rw [h]
  rfl

theorem addLock_register (s : State) (table : TableId) (locks : Locks) : (s.addLock table locks).register = s.register := by
  unfold State.addLock
  dsimp only
  split <;> rfl

theorem lineAbsent_register (s : State) (n : Slot) : (s.lineAbsent n).register = s.register := by
  unfold State.lineAbsent
  split <;> rfl

theorem lockTable_register (s : State) (args : List Byte) : (s.lockTable args).1.register = s.register := by
  unfold State.lockTable
  split
  · split
    · rfl
    · split
      · rfl
      · split
        · rfl
        · exact addLock_register s _ _
  · rfl

/-- EVENTS changes nothing but the Event Unit. -/
theorem actOnEvents_register (s : State) (args : List Byte) : (s.actOnEvents args).1.register = s.register := by
  have same (act : State → State × Reply) (h : (act s).1.register = s.register) :
      (bareOperation act s args).1.register = s.register :=
    bareOperation_keeps (p := fun t => t.register = s.register) rfl args h
  unfold State.actOnEvents
  split
  · rfl
  · split
    · exact same _ rfl
    · exact register_of_inner (eventsClear_inner s args)
    · exact register_of_inner (eventsEnable_inner s args)
    · exact same _ rfl
    · exact same _ rfl
    · rfl

/-! ### The ends of commands, the link and the supply bus -/

section
variable {p : State → Prop} (hk : KeptWhole p)
include hk

theorem KeptWhole.beside {s t : State} (hs : p s) (h : t.register = s.register := by rfl) : p t := hk.register s t hs h

theorem KeptWhole.within {s t : State} (hs : p s) (h : t.inner = s.inner) : p t := hk.beside hs (register_of_inner h)

theorem KeptWhole.operate {s t : State} (hs : p s) (h : Operation s t) : p t := hk.operation s t h hs

theorem KeptWhole.sendNext {s : State} (hs : p s) : p s.sendNext := hk.within hs (sendNext_inner s)

theorem KeptWhole.endStage1 {s : State} (hs : p s) : p s.endStage1 := by
  have hcopies : p (allSlots.foldl State.parkSlot s) :=
    List.foldlRecOn allSlots _ hs fun _ ht n _ => hk.operate ht (.parkSlot n)
  unfold State.endStage1 State.parkingCopies
  dsimp only
  split
  · split
    · exact hk.within hcopies (setPark_inner _ _)
    · exact hk.within hcopies ((setPark_inner _ _).trans (startSave_inner _))
  · exact hs

theorem KeptWhole.finish {s : State} (hs : p s) : p s.finish :=
  finish_keeps (p := p) (fun t ht => hk.within ht (takeOne_inner t)) (fun _ => hk.endStage1) (fun _ => hk.sendNext) s hs

theorem KeptWhole.endSwath {s : State} (hs : p s) (d : Descriptor) : p (s.endSwath d) := by
  have hhanded : p (s.handOver d) := hk.operate hs (.handOver d)
  unfold State.endSwath
  generalize s.handOver d = t at hhanded ⊢
  exact hk.beside hhanded

theorem KeptWhole.truncate {s : State} (hs : p s) : p s.truncate := by
  unfold State.truncate
  split
  · exact hk.within (hk.endSwath hs _) (raise_inner _ _ _ _)
  · exact hs

theorem KeptWhole.takeFmtFrame {s : State} (hs : p s) (k : FrameKind) (f : RxFrame) : p (s.takeFmtFrame k f) := by
  have hdiscarded : p s.discardFrame := hk.beside hs
  have places {c : Prop} [Decidable c] {t : State} (h : p t) : p (if c then t else s.discardFrame) := by
    split
    · exact h
    · exact hdiscarded
  cases k with
  | swathOpen =>
    have htruncated : p (s.truncate.forward s.truncationFrames) := hk.within (hk.truncate hs) (forward_inner _ _)
    refine places ?_
    unfold State.takeSwathOpen
    generalize s.truncate.forward s.truncationFrames = t at htruncated ⊢
    dsimp only
    split
    · exact hk.beside htruncated (recordOpening_register t f.payload)
    · exact hk.beside htruncated
  | fire => exact places (hk.beside hs (takeFire_register s f))
  | swathClose =>
    refine places ?_
    unfold State.takeSwathClose
    split
    · exact hk.within (hk.endSwath hs _) (forward_inner _ _)
    · exact hk.beside hs ((show _ = s.strayFire.register from rfl).trans (register_of_inner (strayFire_inner s)))
  | request => exact hk.within hs (takeRequestFrame_inner s f)
  | reply | notice | headStatus => exact hdiscarded

theorem KeptWhole.receiveFmt {s : State} (hs : p s) (k : FrameKind) (f : RxFrame) : p (s.receiveFmt k f) := by
  have harrived : p s.frameArrives := hk.within hs (frameArrives_inner s)
  unfold State.receiveFmt
  dsimp only
  split
  · exact hk.takeFmtFrame harrived k f
  · exact hk.beside harrived

theorem KeptWhole.receiveSymbol {s : State} (hs : p s) (x : Symbol) : p (s.receiveSymbol x) := by
  unfold State.receiveSymbol
  dsimp only
  split
  · exact hk.beside hs
  · exact hk.beside hs
  · split
    · exact hk.takeFmtFrame (hk.beside hs) _ _
    · exact hk.beside hs

theorem KeptWhole.emptyLink {s : State} (hs : p s) : p s.emptyLink := by
  have htruncated := hk.truncate hs
  unfold State.emptyLink
  generalize s.truncate = t at htruncated ⊢
  exact hk.beside htruncated

theorem KeptWhole.endTransaction {s : State} (hs : p s) (f : Flight) (outcome : BusOutcome) : p (s.endTransaction f outcome) :=
  hk.operate (hk.beside hs) (.deliver f outcome)

theorem KeptWhole.stick {s : State} (hs : p s) : p s.stick := by
  have hfault : p s.enterFault := hk.beside hs
  unfold State.stick
  split
  · exact hk.endTransaction hfault _ _
  · exact hfault

theorem KeptWhole.completeStart (s : State) (straps : BitVec 4) : p (s.completeStart straps) := by
  rw [completeStart_reported]
  exact hk.sendNext (List.foldlRecOn allSlots _ (hk.beside (hk.started s straps)) fun _ ht n _ =>
    hk.operate ht (.startArrival n))

/-! ### Requests -/

theorem KeptWhole.loadTable {s : State} (hs : p s) (args : List Byte) : p (s.loadTable args).1 := by
  have refused (r : Status) : p (refuse s r).1 := hs
  unfold State.loadTable
  split
  · exact refused _
  · split
    · exact refused _
    · dsimp only
      split
      · exact refused _
      · split
        · exact refused _
        · split
          · exact refused _
          · split
            · exact hk.operate hs (.loads _ _ (loadEntries_loads ‹_›))
            · exact refused _

theorem KeptWhole.lockTable {s : State} (hs : p s) (args : List Byte) : p (s.lockTable args).1 :=
  hk.beside hs (lockTable_register s args)

theorem KeptWhole.reauthenticate {s : State} (hs : p s) (n : Slot) : p (s.reauthenticate n).1 := by
  unfold State.reauthenticate
  split
  · exact hk.operate hs (.askChallenge n)
  · exact hs

theorem KeptWhole.commitSlot {s : State} (hs : p s) (n : Slot) : p (s.commitSlot n).1 := by
  unfold State.commitSlot
  split
  · exact hk.operate hs (.askCommit _ n)
  · exact hs

theorem KeptWhole.park {s : State} (hs : p s) : p s.park.1 := by
  unfold State.park
  split
  · exact hs
  · split
    · exact hs
    · split
      · exact hs
      · exact hs
      · dsimp only [queued]
        exact List.foldlRecOn allSlots _ (hk.within hs (setPark_inner s _)) fun _ ht n _ => hk.operate ht (.askCommit .request n)

theorem KeptWhole.resume {s : State} (hs : p s) : p s.resume.1 := by
  have challenged (t : State) (ht : p t) (n : Slot) : p (t.challengeProven n) := by
    unfold State.challengeProven
    split
    · exact hk.operate ht (.askChallenge n)
    · exact ht
  unfold State.resume
  split
  · exact hs
  · exact hk.beside hs
  · dsimp only [done]
    exact List.foldlRecOn allSlots _ (hk.within hs (setPark_inner s _)) fun t ht n _ => challenged t ht n

theorem KeptWhole.actOn (code : Byte) {s : State} (hs : p s) (args : List Byte) : p (s.actOn code args).1 := by
  unfold State.actOn
  split
  · exact hk.loadTable hs args
  · rwa [readTable_state]
  · exact hk.lockTable hs args
  · exact slotArgument_keeps hs args fun _ => hs
  · rwa [queryKnown_state]
  · exact bare_keeps hs args hs
  · exact hk.beside hs (actOnEvents_register s args)
  · exact slotArgument_keeps hs args fun n => hk.reauthenticate hs n
  · exact slotArgument_keeps hs args fun n => hk.commitSlot hs n
  · exact bare_keeps hs args (hk.park hs)
  · exact bare_keeps hs args (hk.resume hs)
  · exact bare_keeps hs args (hk.within hs (saveStore_inner s))
  · exact bare_keeps hs args (hk.emptyLink hs)
  · exact hs

theorem KeptWhole.takeRequest {act : State → List Byte → State × Reply} (ha : ∀ s args, p s → p (act s args).1) {s : State}
    (hs : p s) (r : Request) : p (s.takeRequest r act) := by
  have hacted := ha _ r.args (hk.beside hs : p s.popRequest)
  rw [takeRequest_eq]
  exact hk.beside hacted

theorem KeptWhole.serve {s : State} (hs : p s) : p s.serve := by
  refine serve_keeps (p := p) (fun t ht => ?_) s hs
  rcases serveOne_cases t with ⟨_, h⟩ | ⟨r, _, h⟩ <;> rw [h]
  · exact ht
  · exact hk.finish (hk.takeRequest (fun _ args hu => hk.actOn r.code hu args) ht r)

/-! ### Every command -/

theorem KeptWhole.take {s : State} (hs : p s) (front : Option Request) {act : State → List Byte → State × Reply}
    (ha : ∀ u args, p u → p (act u args).1) : p (s.take front act) := by
  unfold State.take
  split
  · exact hk.serve (hk.finish (hk.takeRequest ha hs _))
  · exact hs

theorem KeptWhole.exec (c : Instr) {s : State} (hs : p s) : Answers p (exec c s) := by
  have running {f : State → State} (h : p (f s)) : Answers p (.next (whenRunning f s)) :=
    answers_next (whenRunning_keeps hs fun _ => h)
  have either {b : Prop} [Decidable b] {t u : State} (ht : p t) (hu : p u) : p (if b then t else u) := by
    split
    · exact ht
    · exact hu
  have acting {front : Option Request} {act : State → List Byte → State × Reply} (ha : ∀ u args, p u → p (act u args).1) :
      Answers p (.next (whenRunning (fun s => s.take front act) s)) := running (hk.take hs front ha)
  have reading {front : Option Request} {act : State → List Byte → State × Reply}
      (ha : ∀ u args, (act u args).1.register = u.register) :
      Answers p (.next (whenRunning (fun s => s.take front act) s)) := acting fun u args hu => hk.beside hu (ha u args)
  cases c with
  -- reset and start-up
  | reset cause => exact answers_next (hk.reset s cause hs)
  | resetRelease => exact answers_next (either (hk.beside hs) hs)
  | startUp straps => exact answers_next (either (hk.completeStart s straps) hs)
  -- the link
  | linkSymbol x => exact running (hk.serve (hk.finish (hk.receiveSymbol (hk.beside hs) x)))
  | linkLoss => exact running (either (hk.finish (hk.beside (hk.emptyLink hs))) hs)
  | swathOpen f | swathClose f => exact running (hk.finish (hk.receiveFmt hs _ f))
  | fire f => exact running (hk.sendNext (hk.receiveFmt hs _ f))
  | requestFrame f => exact running (hk.serve (hk.sendNext (hk.receiveFmt hs _ f)))
  | headStatus f | passThroughFrame k f => exact running (hk.sendNext (hk.within hs (receiveHead_inner s _ f)))
  | discardedFrame d => exact running (either (hk.sendNext (hk.within hs (receiveDiscarded_inner s d))) hs)
  | downstreamSendEnd => exact running (either (hk.beside hs) hs)
  | upstreamSendEnd => exact running (either (hk.serve (hk.within hs (beginUp_inner _))) hs)
  | tempStale h => exact running (either (hk.sendNext (hk.beside hs)) hs)
  -- presence and hold-off
  | lineGoesPresent n =>
    have hline : p (s.setLine n true) := hk.beside hs
    exact answers_next (either hs (whenRunning_keeps hline fun _ => hk.sendNext (hk.operate hline (.linePresent n))))
  | lineGoesAbsent n =>
    have hline : p (s.setLine n false) := hk.beside hs
    exact answers_next (either (whenRunning_keeps hline fun _ => hk.beside hline (lineAbsent_register _ n)) hs)
  | seating n =>
    refine running ?_
    split
    · exact hk.finish (hk.operate hs (.seat n))
    · exact hs
  | removal n =>
    refine running ?_
    split
    · exact hk.finish (hk.operate hs (.remove n))
    · exact hs
  | holdoffExpiry n => exact running (either (hk.finish (hk.operate hs (.endHoldoff n))) hs)
  -- the supply bus
  | transactionBegin => exact running (either (hk.finish hs) hs)
  | commandSent =>
    refine running ?_
    split
    · exact either (hk.beside hs) hs
    · exact hs
  | supplyReply bytes =>
    refine running ?_
    split
    · exact either (hk.finish (hk.endTransaction hs _ _)) hs
    · exact hs
  | responseTimeout =>
    refine running ?_
    split
    · exact hk.finish (hk.endTransaction hs _ _)
    · exact hs
  | busStuck => exact running (either (hk.sendNext (hk.endStage1 (hk.stick hs))) hs)
  | faultEnd => exact running (either (hk.finish (hk.beside hs)) hs)
  | busLineReleased => exact answers_next (either (whenRunning_keeps (hk.beside hs) fun _ => hk.beside hs) hs)
  | busLinePulledLow => exact answers_next (either hs (whenRunning_keeps (hk.beside hs) fun _ => hk.beside hs))
  -- notices and saves
  | noticeHoldoffExpiry => exact running (either (hk.sendNext (hk.beside hs)) hs)
  | parkingCopies => exact running (hk.endStage1 hs)
  | sectionWritten => exact running (hk.beside hs)
  | saveComplete =>
    refine running ?_
    split
    · exact either (hk.sendNext (hk.within hs (parkOnSave_inner _))) hs
    · exact hs
  -- requests
  | loadTable => exact acting fun _ args hu => hk.loadTable hu args
  | readTable => exact reading fun u args => congrArg _ (readTable_state u args)
  | lockTable => exact reading lockTable_register
  | querySlot => exact acting fun _ args hu => slotArgument_keeps hu args fun _ => hu
  | queryKnown => exact reading fun u args => congrArg _ (queryKnown_state u args)
  | queryStatus => exact acting fun _ args hu => bare_keeps hu args hu
  | eventsRead => exact acting fun _ args hu => bareOperation_keeps hu args hu
  | eventsClear => exact reading fun u args => register_of_inner (eventsClear_inner u args)
  | eventsEnable => exact reading fun u args => register_of_inner (eventsEnable_inner u args)
  | noticesOn => exact acting fun _ args hu => bareOperation_keeps hu args (hk.beside hu)
  | noticesOff => exact acting fun _ args hu => bareOperation_keeps hu args (hk.beside hu)
  | reauthenticateSlot => exact acting fun _ args hu => slotArgument_keeps hu args fun n => hk.reauthenticate hu n
  | commitSlot => exact acting fun _ args hu => slotArgument_keeps hu args fun n => hk.commitSlot hu n
  | park => exact acting fun _ args hu => bare_keeps hu args (hk.park hu)
  | resume => exact acting fun _ args hu => bare_keeps hu args (hk.resume hu)
  | saveStore => exact acting fun u args hu => bare_keeps hu args (hk.within hu (saveStore_inner u))
  | linkReset => exact acting fun _ args hu => bare_keeps hu args (hk.emptyLink hu)
  | unknownRequest =>
    refine running ?_
    split
    · exact hk.take hs _ fun _ _ hu => hu
    · exact hs

/-- One step runs one command, or idles. -/
theorem KeptWhole.step {s t : State} (hs : p s) (h : step s = .next t) : p t := by
  unfold Machine.step at h
  split at h
  · exact hk.exec _ (hk.beside hs) t h
  · exact answers_next (p := p) hs t h

end

end Sys2Proof.Machine
end

section
/-! PROOFS. O15: the slots' records stay sound and their bands right (R63, R65, R66, R90, R91, R95, R113). -/

namespace Sys2Proof.Machine

theorem startArrival_slotsSound {s : State} (hs : s.slotsSound) (n : Slot) : (s.startArrival n).slotsSound := by
  unfold State.startArrival
  split
  · split
    · exact arrive_slotsSound hs n
    · exact hs
  · exact hs

theorem linePresent_slotsSound {s : State} (hs : s.slotsSound) (n : Slot) : (s.linePresent n).slotsSound := by
  unfold State.linePresent
  split
  · exact arrive_slotsSound hs n
  · exact setWatch_slotsSound hs n _
  · exact setWatch_slotsSound hs n _
  · exact hs

/-- Every operation keeps the slots' records sound, given that slots and list agree. -/
theorem Operation.slotsSound {s t : State} (h : Operation s t) (hagree : s.bindingsAgree) (hs : s.slotsSound) : t.slotsSound := by
  cases h with
  | handOver d => exact handOver_slotsSound hs d
  | deliver f outcome => exact deliver_slotsSound hagree hs f outcome
  | askChallenge n => exact (regrades_askChallenge s n).slotsSound hs
  | askCommit cause n => exact (regrades_askCommit s cause n).slotsSound hs
  | parkSlot n => exact (regrades_parkSlot s n).slotsSound hs
  | linePresent n => exact linePresent_slotsSound hs n
  | seat n => exact seat_slotsSound hs n
  | remove n => exact remove_slotsSound hs n
  | endHoldoff n => exact endHoldoff_slotsSound hs n
  | startArrival n => exact startArrival_slotsSound hs n
  | loads _ _ h => exact h.slotsSound hs

theorem Operation.bindingsAgree {s t : State} (h : Operation s t) (hs : s.bindingsAgree) : t.bindingsAgree := by
  obtain ⟨u, hmoves, _, hslots, hknown⟩ := h.moves
  exact hmoves.bindingsAgree (bindingsAgree_of_eq hs hslots hknown)

/-- RESET stops the hold-off timers (R181). -/
theorem assertReset_slotsSound {s : State} (hs : s.slotsSound) (cause : ResetCause) : (s.assertReset cause).slotsSound := by
  intro n
  have hslot : (s.assertReset cause).slot n = { s.slot n with holdoff := none } := by simp [State.slot, State.assertReset]
  obtain ⟨⟨hbinding, hunbound, _, hcountdown, hproven⟩, hband⟩ := hs n
  rw [hslot]
  exact ⟨⟨hbinding, hunbound, nofun, hcountdown, hproven⟩, hband.trans (currentBand_congr rfl rfl rfl rfl).symm⟩

theorem loaded_slotsSound (s : State) (straps : BitVec 4) : (s.loaded straps).slotsSound := by
  intro n
  have hslot : (s.loaded straps).slot n = .fresh := reported_slot s straps n
  rw [hslot]
  exact ⟨fresh_sound, rfl⟩

/-- Every operation, reset and start-up keep slots and list in agreement and the slots' records sound. -/
theorem slotsSound_kept : KeptWhole fun s => s.bindingsAgree ∧ s.slotsSound where
  register s t := by
    rintro ⟨hagree, hs⟩ h
    obtain ⟨hslots, hknown, hclasses, _⟩ := State.Register.mk.inj h
    exact ⟨bindingsAgree_of_eq hagree hslots hknown, slotsSound_of_eq hs hslots hclasses⟩
  operation s t h := by
    rintro ⟨hagree, hs⟩
    exact ⟨h.bindingsAgree hagree, h.slotsSound hagree hs⟩
  reset s cause := by
    rintro ⟨hagree, hs⟩
    exact ⟨bindingsAgree_kept.reset s cause hagree, assertReset_slotsSound hs cause⟩
  started s straps := ⟨loaded_bindingsAgree s straps, loaded_slotsSound s straps⟩

/-- Settles O15: the operations leave each record sound and recompute its band (R66), and nothing else changes the slots or the class
table but reset and start-up. -/
theorem slotRecordsStaySound : Obligations.SlotRecordsStaySound :=
  fun _ _ hs h => slotsSound_kept.step hs h

end Sys2Proof.Machine
end

section
/-! PROOFS. O43: the presence lines (R73 to R76). What a recomputation and a change of state touch, the events that a command's end
leaves pending, and an arrival (R62, R74, R92). -/

namespace Sys2Proof.Machine

/-! ### What a change of state touches -/

/-- A state that differs from another in slots, latched actions and events only, the same events enabled. -/
def State.Judges (s t : State) : Prop :=
  ∃ slots latched events, t = { s with slots := slots, swath := { s.swath with latched := latched }, events := events }
    ∧ events.enabled = s.events.enabled

theorem State.Judges.trans {s t u : State} (h : s.Judges t) (g : t.Judges u) : s.Judges u := by
  obtain ⟨_, _, _, rfl, he⟩ := h
  obtain ⟨_, _, _, rfl, he'⟩ := g
  exact ⟨_, _, _, rfl, he'.trans he⟩

theorem announce_enabled (u : EventUnit) : u.announce.enabled = u.enabled := by
  unfold EventUnit.announce
  split <;> rfl

theorem announce_pending (u : EventUnit) : u.announce.pending = u.pending := by
  unfold EventUnit.announce
  split <;> rfl

theorem raise_enabled (k : EventKind) (i : Nat) (d : Word) (u : EventUnit) : (u.raise k i d).enabled = u.enabled := by
  unfold EventUnit.raise
  split
  · split
    · rfl
    · exact announce_enabled _
  · rfl

/-- An enabled event that is raised is pending (R169). -/
theorem raise_holds {k : EventKind} {u : EventUnit} (hk : k ∈ u.enabled) (i : Nat) (d : Word) :
    (u.raise k i d).holds k i = true := by
  rw [EventUnit.raise, if_pos hk]
  split
  · assumption
  · simp [EventUnit.holds, announce_pending, Event.name]

theorem judges_reEvaluate (s : State) (n : Slot) : s.Judges (s.reEvaluate n) := by
  unfold State.reEvaluate
  split
  · exact ⟨s.slots, _, s.events, rfl, rfl⟩
  · exact ⟨s.slots, s.swath.latched, s.events, rfl, rfl⟩

theorem judges_onSlot (s : State) (n : Slot) (f : SlotRecord → SlotRecord) : s.Judges (s.onSlot n f) :=
  ⟨_, s.swath.latched, s.events, rfl, rfl⟩

theorem judges_raiseSlot (s : State) (k : EventKind) (n : Slot) : s.Judges (s.raiseSlot k n) :=
  ⟨s.slots, s.swath.latched, _, rfl, raise_enabled _ _ _ _⟩

theorem judges_recompute (s : State) (n : Slot) : s.Judges (s.recompute n) := by
  unfold State.recompute
  dsimp only
  split
  · exact ⟨s.slots, s.swath.latched, s.events, rfl, rfl⟩
  · refine State.Judges.trans ?_ (judges_reEvaluate _ n)
    split
    · exact (judges_onSlot s n _).trans (judges_raiseSlot _ _ n)
    · exact judges_onSlot s n _

/-- A change of state touches slots, latched actions and events only (R37, R66, R113). -/
theorem judges_changeState (s : State) (n : Slot) (st : SlotState) : s.Judges (s.changeState n st) :=
  ((judges_onSlot s n _).trans (judges_recompute _ n)).trans (judges_reEvaluate _ n)

/-! ### Arrivals -/

/-- An arrival at an EMPTY slot makes it SETTLING, starts its watch, raises INSERTED and clears the drops of its lanes in an open
swath (R62, R74, R92). -/
theorem arrive_empty {s : State} {n : Slot} (h : (s.slot n).state = .empty) :
    ∃ latched events drops,
      s.arrive n =
        { s with
          slots := changeAt s.slots n (SlotRecord.turned s.tables .settling)
          swath := { s.swath with latched := latched, drops := drops }
          bus := { s.bus with watches := s.bus.watches.set n.val (.arriving (some s.tables.insertSettle)) }
          events := events }
      ∧ (EventKind.inserted ∈ s.events.enabled → events.holds .inserted n.val = true)
      ∧ ∀ i : LaneIndex, drops[i] =
          if s.swath.descriptor.isSome = true ∧ s.tables.lanes[i] = some n then ⟨0, 0, 0⟩ else s.swath.drops[i] := by
  obtain ⟨slots, latched, events, hj, he⟩ := judges_changeState (s.setWatch n (.arriving (some s.tables.insertSettle))) n .settling
  have hslots := changeState_slots (s.setWatch n (.arriving (some s.tables.insertSettle))) n .settling
  have hinserted : EventKind.inserted ∈ s.events.enabled → (events.raise .inserted n.val 0#32).holds .inserted n.val = true :=
    fun hk => raise_holds (he ▸ hk) _ _
  rw [hj] at hslots
  obtain rfl : slots = changeAt s.slots n (SlotRecord.turned s.tables .settling) := hslots
  unfold State.arrive
  dsimp only
  rw [if_pos h, hj]
  split
  · rename_i hopen
    have hopen : s.swath.descriptor.isSome = true := hopen
    refine ⟨latched, _, _, rfl, hinserted, fun i => ?_⟩
    by_cases hi : s.tables.lanes[i] = some n
    · rw [if_pos ⟨hopen, hi⟩]
      exact (Vector.getElem_ofFn _).trans (if_pos hi)
    · rw [if_neg fun h => hi h.2]
      exact (Vector.getElem_ofFn _).trans (if_neg hi)
  · rename_i hclosed
    have hclosed : ¬ s.swath.descriptor.isSome = true := hclosed
    exact ⟨latched, _, s.swath.drops, rfl, hinserted, fun i => (if_neg fun h => hclosed h.1).symm⟩

/-- The transmitters' beginnings leave the events pending (R172). -/
theorem sendNext_pending (s : State) : s.sendNext.events.pending = s.events.pending := by
  rw [State.sendNext]
  rcases beginUp_cases (s.onLink Link.beginDown) with h | ⟨_, _, _, _, h⟩ | ⟨_, _, _, _, _, h⟩ | ⟨_, _, _, _, h⟩ <;>
    rw [h] <;> rfl

/-! ### The commands -/

theorem exec_lineGoesPresent {s : State} (hr : s.run = .running) {n : Slot} (h : s.present[n] = false) :
    exec (.lineGoesPresent n) s = .next ((s.setLine n true).linePresent n).sendNext := by
  change Host.Outcome.next _ = _
  rw [if_neg (by simp [h]), whenRunning, if_pos (by simpa using hr)]

theorem exec_lineGoesAbsent {s : State} (hr : s.run = .running) {n : Slot} (h : s.present[n] = true) :
    exec (.lineGoesAbsent n) s = .next ((s.setLine n false).lineAbsent n) := by
  change Host.Outcome.next _ = _
  rw [if_pos h, whenRunning, if_pos (by simpa using hr)]

/-- Settles O43: an arrival is what `arrive_empty` says, and every other move of a line sets its watch alone (R74 to R76). -/
theorem presenceLinesMoveTheWatches : Obligations.PresenceLinesMoveTheWatches := by
  refine ⟨fun n s hr hp hw he => ?_, fun n s hr hp hne => ?_, fun n s hr hp => ⟨?_, ?_⟩, fun n s hr hp => ?_⟩
  · -- an arrival
    obtain ⟨latched, events, drops, harrive, hinserted, hdrops⟩ := arrive_empty (s := s.setLine n true) he
    have hpresent : (s.setLine n true).linePresent n = (s.setLine n true).arrive n := by
      unfold State.linePresent
      rw [show (s.setLine n true).watch n = .quiet from hw]
    refine ⟨_, exec_lineGoesPresent hr hp, ?_⟩
    rw [hpresent]
    have hslots : ((s.setLine n true).arrive n).sendNext.slots = changeAt s.slots n (SlotRecord.turned s.tables .settling) := by
      rw [State.sendNext_slots, harrive]
      rfl
    refine ⟨?_, ?_, by rw [slot_of_changeAt hslots]; rfl, fun m hm => slot_of_changeAt_ne hslots hm, fun hk => ?_, fun i => ?_, ?_⟩
    · simp [harrive, changeAt]
    · simp [harrive, Tables.insertSettle]
    · rw [EventUnit.holds, sendNext_pending, harrive]
      exact hinserted hk
    · rw [State.sendNext_swath, harrive]
      exact hdrops i
    · simp [harrive]
  · -- any other watch, and an arrival of a slot that is not EMPTY
    rw [exec_lineGoesPresent hr hp]
    congr 2
    unfold State.linePresent
    rw [show (s.setLine n true).watch n = s.watch n from rfl]
    cases hw : s.watch n with
    | quiet => exact if_neg (hne.resolve_left fun h => h hw)
    | leaving before settle => cases before <;> rfl
    | disabled | arriving _ | seated => rfl
  · change Host.Outcome.next _ = _
    rw [if_pos hp]
  · rw [exec_lineGoesAbsent hr hp]
    congr 1
    unfold State.lineAbsent
    rw [show (s.setLine n false).watch n = s.watch n from rfl]
    cases s.watch n <;> rfl
  · change Host.Outcome.next _ = _
    rw [if_neg (by simp [hp])]

end Sys2Proof.Machine
end

section
/-! PROOFS. What a command can do to the supply side of the part, said once: the event that the command stands for (`SupplyEvent`), and
the course that it takes from there through the units' work and the considerations of the transaction queue (`Course`). What every event
and every step of a course keeps, every command keeps. -/

namespace Sys2Proof.Machine

/-! ### The supply side -/

/-- The slots, the supply bus and the commits, and what the presence watches are judged by. -/
structure State.Supply where
  run : RunPhase
  present : Vector Bool 12
  busLow : Bool
  slots : Vector SlotRecord 12
  bus : Bus
  nonce : Word
  commits : CommitUnit
  sockets : Vector SocketConfig 12

def State.supply (s : State) : State.Supply :=
  ⟨s.run, s.present, s.busLow, s.slots, s.bus, s.nonce, s.commits, s.tables.sockets⟩

/-- The operations by which the units of a running part change its supply side; also those that leave it. -/
inductive SupplyWork (s : State) : State → Prop
  | aside {t : State} (h : t.supply = s.supply) : SupplyWork s t
  | handOver (d : Descriptor) : SupplyWork s (s.handOver d)
  | deliver (f : Flight) (outcome : BusOutcome) : SupplyWork s (s.deliver f outcome)
  | askChallenge (n : Slot) : SupplyWork s (s.askChallenge n)
  | askCommit (cause : CommitCause) (n : Slot) : SupplyWork s (s.askCommit cause n)
  | seat (n : Slot) (settle : Nat) (h : s.watch n = .arriving (some settle)) : SupplyWork s (s.seat n)
  | remove (n : Slot) (before : Before) (settle : Nat) (h : s.watch n = .leaving before (some settle)) : SupplyWork s (s.remove n)
  | endHoldoff (n : Slot) (h : (s.slot n).state = .holdoff) : SupplyWork s (s.endHoldoff n)
  | loads {t : State} (first written : Nat) (h : Loads s first written t) : SupplyWork s t

/-- What follows a command's event: the units work, and the transaction queue is considered. The index says whether the queue has been
considered since the last work; `b` is where it starts. -/
inductive Course (s : State) (b : Bool) : Bool → State → Prop
  | start : Course s b b s
  | aside {c : Bool} {t u : State} (h : Course s b c t) (e : u.supply = t.supply) : Course s b c u
  | work {c : Bool} {t u : State} (h : Course s b c t) (w : SupplyWork t u) : Course s b false u
  | consider {c : Bool} {t : State} (h : Course s b c t) : Course s b true t.considerQueue

/-- The transaction in flight is removed, and the bus is IDLE unless it is in FAULT (R83 to R85). -/
def Bus.ended (b : Bus) : Bus :=
  { b with flight := none, status := if b.status = .fault then .fault else .idle }

/-- The release timer has ended: the bus is IDLE (R86). -/
def Bus.freed (b : Bus) : Bus := { b with status := .idle, releaseTimer := false }

/-- What a command's event itself makes of the supply side. The index is false where it may leave a request to be taken. -/
inductive SupplyEvent (s : State) (c : Instr) : Bool → State → Prop
  | nothing : SupplyEvent s c true s
  | reset (cause : ResetCause) : SupplyEvent s c true (s.assertReset cause)
  | release (h : s.run = .asserted) : SupplyEvent s c true { s with run := .reading }
  | started (straps : BitVec 4) {t : State} (hc : c = .startUp straps) (h : t.supply = (s.loaded straps).supply) :
      SupplyEvent s c true (allSlots.foldl State.startArrival t)
  | line (n : Slot) (reads : Bool) (hr : s.run ≠ .running) : SupplyEvent s c true (s.setLine n reads)
  | present (n : Slot) (hr : s.run = .running) (h : s.present[n] = false) : SupplyEvent s c true ((s.setLine n true).linePresent n)
  | absent (n : Slot) (hr : s.run = .running) (h : s.present[n] = true) : SupplyEvent s c true ((s.setLine n false).lineAbsent n)
  | busLine (low : Bool) (hr : s.run ≠ .running) : SupplyEvent s c true { s with busLow := low }
  | released (hr : s.run = .running) (h : s.busLow = true) : SupplyEvent s c true (({ s with busLow := false } : State).onBus Bus.released)
  | pulledLow (hr : s.run = .running) : SupplyEvent s c true (({ s with busLow := true } : State).onBus Bus.pulledLow)
  | sent : SupplyEvent s c true (s.setStage .awaiting)
  | ended {f : Flight} (h : s.bus.flight = some f) : SupplyEvent s c false (s.onBus Bus.ended)
  | stuck : SupplyEvent s c true (s.enterFault.onBus Bus.ended)
  | freed (h : s.bus.status = .fault) : SupplyEvent s c false (s.onBus Bus.freed)

/-- What a command makes of a state: its event, and where the part runs then, a course from there that ends with the queue considered. -/
def State.Runs (s : State) (c : Instr) (t : State) : Prop :=
  ∃ b u, SupplyEvent s c b u ∧ (b = true ∧ t = u ∨ u.run = .running ∧ Course u b true t)

/-! ### What leaves the supply side -/

theorem onLink_supply (s : State) (f : Link → Link) : (s.onLink f).supply = s.supply := rfl

theorem onSwath_supply (s : State) (f : SwathPath → SwathPath) : (s.onSwath f).supply = s.supply := rfl

theorem onDecoder_supply (s : State) (f : Decoder → Decoder) : (s.onDecoder f).supply = s.supply := rfl

theorem onEvents_supply (s : State) (f : EventUnit → EventUnit) : (s.onEvents f).supply = s.supply := rfl

theorem onStore_supply (s : State) (f : Store → Store) : (s.onStore f).supply = s.supply := rfl

theorem raise_supply (s : State) (k : EventKind) (i : Nat) (d : Word) : (s.raise k i d).supply = s.supply := rfl

theorem forward_supply (s : State) (fs : List Frame) : (s.forward fs).supply = s.supply := rfl

theorem discardFrame_supply (s : State) : s.discardFrame.supply = s.supply := rfl

theorem goStale_supply (s : State) (h : Head) : (s.goStale h).supply = s.supply := rfl

theorem setPark_supply (s : State) (p : Park) : (s.setPark p).supply = s.supply := rfl

theorem sendNext_supply (s : State) : s.sendNext.supply = s.supply := by
  obtain ⟨l, u, h⟩ := sendNext_eq s
  rw [h]
  rfl

theorem beginUp_supply (s : State) : s.beginUp.supply = s.supply := by
  obtain ⟨l, u, h⟩ := beginUp_eq s
  rw [h]
  rfl

theorem endStage1_supply (s : State) : s.endStage1.supply = s.supply := by
  obtain ⟨l, d, t, h, _⟩ := endStage1_eq s
  rw [h]
  rfl

theorem frameArrives_supply (s : State) : s.frameArrives.supply = s.supply := by
  unfold State.frameArrives
  dsimp only
  split <;> rfl

theorem headFrameArrives_supply (s : State) : s.headFrameArrives.supply = s.supply := by
  unfold State.headFrameArrives
  split <;> rfl

theorem takeRequestFrame_supply (s : State) (f : RxFrame) : (s.takeRequestFrame f).supply = s.supply := by
  unfold State.takeRequestFrame State.queueRequest
  split
  · split <;> rfl
  · split <;> rfl

theorem takeHeadFrame_supply (s : State) (k : FrameKind) (f : RxFrame) : (s.takeHeadFrame k f).supply = s.supply := by
  unfold State.takeHeadFrame State.readStatus
  split
  · split
    · split <;> rfl
    · rfl
  · rfl

theorem receiveHead_supply (s : State) (k : FrameKind) (f : RxFrame) : (s.receiveHead k f).supply = s.supply := by
  refine Eq.trans ?_ (headFrameArrives_supply s)
  unfold State.receiveHead
  dsimp only
  split
  · exact takeHeadFrame_supply _ k f
  · rfl

theorem receiveHeadSymbol_supply (s : State) (x : Symbol) : (s.receiveHeadSymbol x).supply = s.supply := by
  unfold State.receiveHeadSymbol
  dsimp only
  split
  · rfl
  · rfl
  · split
    · exact takeHeadFrame_supply _ _ _
    · rfl

theorem receiveDiscarded_supply (s : State) (d : Discarded) : (s.receiveDiscarded d).supply = s.supply := by
  cases d with
  | headSymbol x => exact receiveHeadSymbol_supply s x
  | headFrame _ => exact headFrameArrives_supply s
  | fmtFrame _ => exact frameArrives_supply s

theorem strayFire_supply (s : State) : s.strayFire.supply = s.supply := by
  unfold State.strayFire
  split <;> rfl

theorem takeFire_supply (s : State) (f : RxFrame) : (s.takeFire f).supply = s.supply := by
  obtain ⟨w, l, u, h⟩ := takeFire_eq s f
  rw [h]
  rfl

theorem recordOpening_supply (s : State) (payload : List Byte) : (s.promote.recordOpening payload).supply = s.supply := by
  have hsockets : s.promote.tables.sockets = s.tables.sockets := by rw [promote_tables]
  obtain ⟨t, d, u, h, _⟩ := promote_eq s
  rw [h] at hsockets ⊢
  exact congrArg (State.Supply.mk _ _ _ _ _ _ _) hsockets

theorem parkOnSave_supply (s : State) : s.parkOnSave.supply = s.supply := by
  unfold State.parkOnSave
  split <;> rfl

theorem reportSection_supply {α : Type} (s : State) (v : Verdict α) (i : Nat) : (s.reportSection v i).supply = s.supply := by
  cases v <;> rfl

theorem lockTable_supply (s : State) (args : List Byte) : (s.lockTable args).1.supply = s.supply := by
  have locked (table : TableId) (locks : Locks) : (s.addLock table locks).supply = s.supply := by
    unfold State.addLock
    dsimp only
    split <;> rfl
  unfold State.lockTable
  split
  · split
    · rfl
    · split
      · rfl
      · split
        · rfl
        · exact locked _ _
  · rfl

theorem eventsClear_supply (s : State) (args : List Byte) : (s.eventsClear args).1.supply = s.supply := by
  unfold State.eventsClear
  split
  · split <;> rfl
  · split
    · split <;> rfl
    · rfl
  · rfl

theorem eventsEnable_supply (s : State) (args : List Byte) : (s.eventsEnable args).1.supply = s.supply := by
  unfold State.eventsEnable
  split
  · split
    · split <;> rfl
    · rfl
  · rfl

theorem bareOperation_supply {act : State → State × Reply} (s : State) (h : (act s).1.supply = s.supply) (args : List Byte) :
    (bareOperation act s args).1.supply = s.supply :=
  bareOperation_keeps (p := fun t => t.supply = s.supply) rfl args h

theorem actOnEvents_supply (s : State) (args : List Byte) : (s.actOnEvents args).1.supply = s.supply := by
  unfold State.actOnEvents
  split
  · rfl
  · split
    · exact bareOperation_supply s rfl args
    · exact eventsClear_supply s args
    · exact eventsEnable_supply s args
    · exact bareOperation_supply s rfl args
    · exact bareOperation_supply s rfl args
    · rfl

/-! ### The ends of commands -/

section
variable {s t : State} {b c : Bool}

/-- Work may have been done. -/
theorem Course.opened (h : Course s b c t) : Course s b false t := h.work (.aside rfl)

theorem Course.sendNext (h : Course s b c t) : Course s b c t.sendNext := h.aside (sendNext_supply t)

theorem Course.endStage1 (h : Course s b c t) : Course s b c t.endStage1 := h.aside (endStage1_supply t)

theorem Course.finish (h : Course s b c t) : Course s b true t.finish := h.consider.endStage1.sendNext

/-- Work done slot by slot. -/
theorem Course.foldl {α : Type} {g : State → α → State} (hg : ∀ t a, Course s b false t → Course s b false (g t a)) (l : List α)
    (h : Course s b c t) : Course s b false (l.foldl g t) :=
  List.foldlRecOn l _ h.opened fun _ ht a _ => hg _ a ht

/-! ### The link and the Swath Path -/

theorem Course.endSwath (h : Course s b c t) (d : Descriptor) : Course s b false (t.endSwath d) := by
  have hhanded : Course s b false (t.handOver d) := h.work (.handOver d)
  unfold State.endSwath
  generalize t.handOver d = u at hhanded ⊢
  exact hhanded.aside (onSwath_supply u _)

theorem Course.truncate (h : Course s b c t) : Course s b false t.truncate := by
  unfold State.truncate
  split
  · exact (h.endSwath _).aside (raise_supply _ _ _ _)
  · exact h.opened

theorem Course.emptyLink (h : Course s b c t) : Course s b false t.emptyLink :=
  ((h.truncate.aside (onLink_supply _ _)).aside (onDecoder_supply _ _)).aside (onEvents_supply _ _)

theorem Course.loseLink (h : Course s b c t) : Course s b false t.loseLink :=
  (h.emptyLink.aside (raise_supply _ _ _ _)).aside (onLink_supply _ _)

theorem Course.takeSwathOpen (h : Course s b c t) (f : RxFrame) : Course s b false (t.takeSwathOpen f) := by
  have htruncated : Course s b false (t.truncate.forward t.truncationFrames) := h.truncate.aside (forward_supply _ _)
  unfold State.takeSwathOpen
  dsimp only
  split
  · exact (htruncated.aside (recordOpening_supply _ f.payload)).aside (forward_supply _ _)
  · exact (htruncated.aside (raise_supply _ _ _ _)).aside (onSwath_supply _ _)

theorem Course.takeSwathClose (h : Course s b c t) (f : RxFrame) : Course s b false (t.takeSwathClose f) := by
  unfold State.takeSwathClose
  split
  · exact (h.endSwath _).aside (forward_supply _ _)
  · exact (h.opened.aside (strayFire_supply t)).aside (onSwath_supply _ _)

theorem Course.takeFmtFrame (h : Course s b c t) (k : FrameKind) (f : RxFrame) : Course s b false (t.takeFmtFrame k f) := by
  have hdiscarded : Course s b false t.discardFrame := h.opened.aside (discardFrame_supply t)
  have places {p : Prop} [Decidable p] {u : State} (hu : Course s b false u) : Course s b false (if p then u else t.discardFrame) := by
    split
    · exact hu
    · exact hdiscarded
  cases k with
  | swathOpen => exact places (h.takeSwathOpen f)
  | fire => exact places (h.opened.aside (takeFire_supply t f))
  | swathClose => exact places (h.takeSwathClose f)
  | request => exact h.opened.aside (takeRequestFrame_supply t f)
  | reply | notice | headStatus => exact hdiscarded

theorem Course.receiveFmt (h : Course s b c t) (k : FrameKind) (f : RxFrame) : Course s b false (t.receiveFmt k f) := by
  have harrived : Course s b c t.frameArrives := h.aside (frameArrives_supply t)
  unfold State.receiveFmt
  dsimp only
  split
  · exact harrived.takeFmtFrame k f
  · exact harrived.opened.aside (discardFrame_supply _)

/-- A FIRE or a REQUEST gives the supply side nothing to do until its request is taken. -/
theorem receiveFmt_supply (s : State) {k : FrameKind} (hk : k = .fire ∨ k = .request) (f : RxFrame) :
    (s.receiveFmt k f).supply = s.supply := by
  refine Eq.trans ?_ (frameArrives_supply s)
  unfold State.receiveFmt
  dsimp only
  split
  · rcases hk with rfl | rfl
    · unfold State.takeFmtFrame
      dsimp only
      split
      · exact takeFire_supply _ f
      · rfl
    · exact takeRequestFrame_supply _ f
  · rfl

theorem Course.receiveSymbol (h : Course s b c t) (x : Symbol) : Course s b false (t.receiveSymbol x) := by
  have hset : Course s b c (t.setReceiver (receive t.link.receiver x).1) := h.aside (onLink_supply _ _)
  unfold State.receiveSymbol
  dsimp only
  split
  · exact hset.opened
  · exact hset.opened.aside (discardFrame_supply _)
  · split
    · exact hset.takeFmtFrame _ _
    · exact hset.opened.aside (discardFrame_supply _)

/-! ### Requests -/

theorem Course.loadTable (h : Course s b c t) (args : List Byte) : Course s b false (t.loadTable args).1 := by
  have refused (r : Status) : Course s b false (refuse t r).1 := h.opened
  unfold State.loadTable
  split
  · exact refused _
  · split
    · exact refused _
    · dsimp only
      split
      · exact refused _
      · split
        · exact refused _
        · split
          · exact refused _
          · split
            · exact h.work (.loads _ _ (loadEntries_loads ‹_›))
            · exact refused _

theorem Course.reauthenticate (h : Course s b c t) (n : Slot) : Course s b false (t.reauthenticate n).1 := by
  unfold State.reauthenticate
  split
  · exact h.work (.askChallenge n)
  · exact h.opened

theorem Course.commitSlot (h : Course s b c t) (n : Slot) : Course s b false (t.commitSlot n).1 := by
  unfold State.commitSlot
  split
  · exact h.work (.askCommit _ n)
  · exact h.opened

theorem Course.park (h : Course s b c t) : Course s b false t.park.1 := by
  unfold State.park
  split
  · exact h.opened
  · split
    · exact h.opened
    · split
      · exact h.opened
      · exact h.opened
      · dsimp only [queued]
        exact Course.foldl (fun _ n hu => hu.work (.askCommit .request n)) allSlots (h.aside (setPark_supply t _))

theorem Course.resume (h : Course s b c t) : Course s b false t.resume.1 := by
  have challenged (u : State) (n : Slot) (hu : Course s b false u) : Course s b false (u.challengeProven n) := by
    unfold State.challengeProven
    split
    · exact hu.work (.askChallenge n)
    · exact hu
  unfold State.resume
  split
  · exact h.opened
  · exact h.opened.aside (setPark_supply t _)
  · dsimp only [done]
    exact Course.foldl challenged allSlots (h.aside (setPark_supply t _))

theorem Course.actOn (h : Course s b c t) (code : Byte) (args : List Byte) : Course s b false (t.actOn code args).1 := by
  have ho := h.opened
  unfold State.actOn
  split
  · exact h.loadTable args
  · rwa [readTable_state]
  · exact ho.aside (lockTable_supply t args)
  · exact slotArgument_keeps ho args fun _ => ho
  · rwa [queryKnown_state]
  · exact bare_keeps ho args ho
  · exact ho.aside (actOnEvents_supply t args)
  · exact slotArgument_keeps ho args fun n => h.reauthenticate n
  · exact slotArgument_keeps ho args fun n => h.commitSlot n
  · exact bare_keeps ho args h.park
  · exact bare_keeps ho args h.resume
  · refine bare_keeps ho args (ho.aside ?_)
    unfold State.saveStore
    split <;> rfl
  · exact bare_keeps ho args h.emptyLink
  · exact ho

/-- The acts of requests, each on a course. -/
def Supplied (act : State → List Byte → State × Reply) : Prop :=
  ∀ {s t : State} {b c : Bool}, Course s b c t → ∀ args, Course s b false (act t args).1

theorem Course.takeRequest {act : State → List Byte → State × Reply} (ha : Supplied act) (h : Course s b c t) (r : Request) :
    Course s b false (t.takeRequest r act) := by
  have hpopped : Course s b c t.popRequest := h.aside (onDecoder_supply t _)
  rw [takeRequest_eq]
  exact (ha hpopped r.args).aside (onLink_supply _ _)

theorem Course.serve (h : Course s b true t) : Course s b true t.serve := by
  refine serve_keeps (p := Course s b true) (fun u hu => ?_) t h
  rcases serveOne_cases u with ⟨_, e⟩ | ⟨r, _, e⟩ <;> rw [e]
  · exact hu
  · exact (hu.takeRequest (fun hv args => hv.actOn r.code args) r).finish

theorem Course.take {act : State → List Byte → State × Reply} (ha : Supplied act) (h : Course s b true t) (front : Option Request) :
    Course s b true (t.take front act) := by
  unfold State.take
  split
  · exact (h.takeRequest ha _).finish.serve
  · exact h

end

/-! ### The supply bus -/

theorem awaited_iff {b : Bus} {f : Flight} : b.awaited = some f ↔ b.flight = some f ∧ f.stage = .awaiting := by
  unfold Bus.awaited
  split
  · rename_i g hg
    rw [hg]
    constructor
    · intro h
      obtain ⟨hs, ⟨⟩⟩ := Option.ite_none_right_eq_some.mp h
      exact ⟨rfl, hs⟩
    · rintro ⟨⟨⟩, hs⟩
      exact if_pos hs
  · rename_i hn
    simp [hn]

/-- What no move touches of the bus: its state and its timings. -/
theorem Moves.bus_status {s t : State} (h : Moves s t) : t.bus.status = s.bus.status :=
  h.field (f := fun s => s.bus.status) fun u _ m => by
    cases m with
    | place n k => obtain ⟨q, h⟩ := busPlace_eq u n k; rw [h]; rfl
    | unbind n => obtain ⟨f, h⟩ := writeAccount_eq u n; rw [h]; rfl
    | _ => rfl

/-- A stuck line ends the transaction in flight in FAULT, if there is one (R85). -/
theorem stick_eq (s : State) :
    s.stick = s.enterFault.onBus Bus.ended ∨ ∃ f, s.stick = (s.enterFault.onBus Bus.ended).deliver f .busFault := by
  unfold State.stick
  split
  · exact .inr ⟨_, rfl⟩
  · rename_i h
    refine .inl ?_
    simp [State.enterFault, State.onBus, State.raise, State.onEvents, Bus.ended, h]

/-- The bus in FAULT takes no request, so that BUS_STUCK may be said to consider its queue (R81, R85; log entry 4). -/
theorem stick_finish (s : State) : s.stick.endStage1.sendNext = s.stick.finish := by
  have hfault : s.stick.bus.status = .fault := by
    rcases stick_eq s with h | ⟨f, h⟩ <;> rw [h]
    · rfl
    · exact (moves_deliver _ f .busFault).bus_status
  rw [State.finish, considerQueue_of_settled fun hidle => by rw [hfault] at hidle; cases hidle]

/-! ### Every command -/

/-- Every command is its event and a course from there. -/
theorem exec_runs (c : Instr) (s : State) : Answers (s.Runs c) (exec c s) := by
  have same : s.Runs c s := ⟨true, s, .nothing, .inl ⟨rfl, rfl⟩⟩
  have event {u : State} (h : SupplyEvent s c true u) : s.Runs c u := ⟨true, u, h, .inl ⟨rfl, rfl⟩⟩
  have running {f : State → State} (h : s.run = .running → s.Runs c (f s)) : Answers (s.Runs c) (.next (whenRunning f s)) :=
    answers_next (whenRunning_keeps same h)
  have course {f : State → State} (h : Course s true true (f s)) : Answers (s.Runs c) (.next (whenRunning f s)) :=
    running fun hr => ⟨true, s, .nothing, .inr ⟨hr, h⟩⟩
  have evented {q : Bool} {u v : State} (hu : SupplyEvent s c q u) (hr : u.run = .running) (h : Course u q true v) : s.Runs c v :=
    ⟨q, u, hu, .inr ⟨hr, h⟩⟩
  have either {p : Prop} [Decidable p] {q : State → Prop} {u v : State} (hu : p → q u) (hv : q v) : q (if p then u else v) := by
    split
    · exact hu ‹_›
    · exact hv
  have begin : Course s true true s := .start
  have acting {front : Option Request} {act : State → List Byte → State × Reply} (ha : Supplied act) :
      Answers (s.Runs c) (.next (whenRunning (fun s => s.take front act) s)) := course (begin.take ha front)
  have reading {front : Option Request} {act : State → List Byte → State × Reply}
      (ha : ∀ u args, (act u args).1.supply = u.supply) :
      Answers (s.Runs c) (.next (whenRunning (fun s => s.take front act) s)) := acting fun hu args => hu.opened.aside (ha _ args)
  cases c with
  -- reset and start-up
  | reset cause => exact answers_next (event (.reset cause))
  | resetRelease => exact answers_next (either (fun h => event (.release h)) same)
  | startUp straps =>
    refine answers_next (either (fun _ => ?_) same)
    have hevents : ((((s.loaded straps).raise .restart 0 (restartDetail s.cause)).reportSection s.store.configVerdict 0).reportSection
        s.store.keysVerdict 1 |>.reportSection s.store.knownVerdict 2).supply = (s.loaded straps).supply := by
      rw [reportSection_supply, reportSection_supply, reportSection_supply]
      rfl
    refine evented (.started straps rfl hevents) ?_ (Course.sendNext .start)
    exact (Moves.foldl moves_startArrival allSlots _).run.trans (congrArg State.Supply.run hevents)
  -- the link
  | linkSymbol x => exact course (((begin.aside (onLink_supply s _)).receiveSymbol x).finish.serve)
  | linkLoss => exact course (either (fun _ => begin.loseLink.finish) begin)
  | swathOpen f | swathClose f => exact course (begin.receiveFmt _ f).finish
  | fire f => exact course (begin.aside (receiveFmt_supply s (.inl rfl) f)).sendNext
  | requestFrame f => exact course (begin.aside (receiveFmt_supply s (.inr rfl) f)).sendNext.serve
  | headStatus f | passThroughFrame k f => exact course (begin.aside (receiveHead_supply s _ f)).sendNext
  | discardedFrame d => exact course (either (fun _ => (begin.aside (receiveDiscarded_supply s d)).sendNext) begin)
  | downstreamSendEnd => exact course (either (fun _ => begin.aside (onLink_supply s _)) begin)
  | upstreamSendEnd => exact course (either (fun _ => ((begin.aside (onLink_supply s _)).aside (beginUp_supply _)).serve) begin)
  | tempStale h => exact course (either (fun _ => (begin.aside (goStale_supply s h)).sendNext) begin)
  -- presence and hold-off
  | lineGoesPresent n =>
    refine answers_next ?_
    split
    · exact same
    · rename_i hp
      have hp := Bool.eq_false_iff.mpr hp
      unfold whenRunning
      split
      · rename_i hr
        exact evented (.present n hr hp) ((moves_linePresent _ n).run.trans hr) (Course.sendNext .start)
      · exact event (.line n true ‹_›)
  | lineGoesAbsent n =>
    refine answers_next ?_
    split
    · rename_i hp
      unfold whenRunning
      split
      · exact event (.absent n ‹_› hp)
      · exact event (.line n false ‹_›)
    · exact same
  | seating n =>
    refine course ?_
    split
    · exact (begin.work (.seat n _ ‹_›)).finish
    · exact begin
  | removal n =>
    refine course ?_
    split
    · exact (begin.work (.remove n _ _ ‹_›)).finish
    · exact begin
  | holdoffExpiry n => exact course (either (fun h => (begin.work (.endHoldoff n h.1)).finish) begin)
  -- the supply bus
  | transactionBegin => exact course (either (fun _ => begin.finish) begin)
  | commandSent =>
    refine running fun _ => ?_
    split
    · exact either (fun _ => event .sent) same
    · exact same
  | supplyReply bytes =>
    refine running fun hr => ?_
    split
    · rename_i f hf
      refine either (fun _ => ?_) same
      exact evented (.ended ((awaited_iff.mp hf).1)) hr (Course.work .start (.deliver f _)).finish
    · exact same
  | responseTimeout =>
    refine running fun hr => ?_
    split
    · rename_i f hf
      exact evented (.ended ((awaited_iff.mp hf).1)) hr (Course.work .start (.deliver f _)).finish
    · exact same
  | busStuck =>
    refine running fun hr => either (fun _ => ?_) same
    rw [stick_finish]
    rcases stick_eq s with h | ⟨f, h⟩ <;> rw [h]
    · exact evented .stuck hr (Course.finish .start)
    · exact evented .stuck hr (Course.work .start (.deliver f _)).finish
  | faultEnd => exact running fun hr => either (fun h => evented (.freed h.1) hr (Course.finish .start)) same
  | busLineReleased =>
    refine answers_next ?_
    split
    · unfold whenRunning
      split
      · exact event (.released ‹_› ‹_›)
      · exact event (.busLine false ‹_›)
    · exact same
  | busLinePulledLow =>
    refine answers_next ?_
    split
    · exact same
    · unfold whenRunning
      split
      · exact event (.pulledLow ‹_›)
      · exact event (.busLine true ‹_›)
  -- notices and saves
  | noticeHoldoffExpiry => exact course (either (fun _ => (begin.aside (onEvents_supply s _)).sendNext) begin)
  | parkingCopies => exact course begin.endStage1
  | sectionWritten => exact course (begin.aside (onStore_supply s _))
  | saveComplete =>
    refine course ?_
    split
    · exact either (fun _ => ((begin.aside (onStore_supply s _)).aside (parkOnSave_supply _)).sendNext) begin
    · exact begin
  -- requests
  | loadTable => exact acting fun hu args => hu.loadTable args
  | readTable => exact reading fun u args => congrArg _ (readTable_state u args)
  | lockTable => exact reading lockTable_supply
  | querySlot => exact acting fun hu args => slotArgument_keeps hu.opened args fun _ => hu.opened
  | queryKnown => exact reading fun u args => congrArg _ (queryKnown_state u args)
  | queryStatus => exact acting fun hu args => bare_keeps hu.opened args hu.opened
  | eventsRead | noticesOn | noticesOff => exact reading fun u args => bareOperation_supply u rfl args
  | eventsClear => exact reading eventsClear_supply
  | eventsEnable => exact reading eventsEnable_supply
  | reauthenticateSlot => exact acting fun hu args => slotArgument_keeps hu.opened args fun n => hu.reauthenticate n
  | commitSlot => exact acting fun hu args => slotArgument_keeps hu.opened args fun n => hu.commitSlot n
  | park => exact acting fun hu args => bare_keeps hu.opened args hu.park
  | resume => exact acting fun hu args => bare_keeps hu.opened args hu.resume
  | saveStore => exact acting fun hu args => hu.actOn 12#8 args
  | linkReset => exact acting fun hu args => bare_keeps hu.opened args hu.emptyLink
  | unknownRequest =>
    refine course ?_
    split
    · exact begin.take (fun hu _ => hu.opened) _
    · exact begin

end Sys2Proof.Machine
end

section
/-! PROOFS. O12: the supply bus stays settled (R80 to R82, R85, R86, R89). Work may leave requests to be taken and nothing else out of
order, and the consideration of the queue takes them. -/

namespace Sys2Proof.Machine

/-! ### The invariant -/

/-- O12's predicate, less that no request waits on an IDLE bus: of the bus, where the part stands, and the line's level. -/
structure Bus.Sound (run : RunPhase) (low : Bool) (b : Bus) : Prop where
  nodup : b.queue.Nodup
  busy : b.flight.isSome = true ↔ b.status = .busy
  release : b.releaseTimer = true → b.status = .fault ∧ low = false
  timing : b.lowTiming = true → low = true
  stopped : run ≠ .running → b.releaseTimer = false ∧ b.lowTiming = false

def State.busSound (s : State) : Prop := s.bus.Sound s.run s.busLow

theorem busSettled_iff (s : State) : s.busSettled ↔ s.busSound ∧ s.bus.settled := by
  constructor
  · rintro ⟨hnodup, hbusy, hidle, hrelease, htiming, hstopped⟩
    exact ⟨⟨hnodup, hbusy, hrelease, htiming, hstopped⟩, fun hi _ => hidle hi⟩
  · rintro ⟨⟨hnodup, hbusy, hrelease, htiming, hstopped⟩, hsettled⟩
    refine ⟨hnodup, hbusy, fun hi => hsettled hi ?_, hrelease, htiming, hstopped⟩
    rw [hi] at hbusy
    simpa using hbusy

/-- What the invariant looks at, and the nonce register. -/
def State.busSide (s : State) : RunPhase × Bool × Bus × Word := (s.run, s.busLow, s.bus, s.nonce)

theorem busSide_of_supply {s t : State} (h : t.supply = s.supply) : t.busSide = s.busSide :=
  congrArg (fun v : State.Supply => (v.run, v.busLow, v.bus, v.nonce)) h

theorem busSound_of_eq {s t : State} (hs : s.busSound) (h : t.busSide = s.busSide) : t.busSound := by
  simp only [State.busSide, Prod.mk.injEq] at h
  obtain ⟨hrun, hlow, hbus, _⟩ := h
  rw [State.busSound, hrun, hlow, hbus]
  exact hs

/-! ### Work -/

/-- Work is a sequence of primitive changes, after a change of tables where it is a load. -/
theorem SupplyWork.moves {s t : State} (w : SupplyWork s t) : ∃ u, Moves u t ∧ u.busSide = s.busSide := by
  cases w with
  | aside h => exact ⟨t, .refl, busSide_of_supply h⟩
  | handOver d => exact ⟨s, moves_handOver s d, rfl⟩
  | deliver f outcome => exact ⟨s, moves_deliver s f outcome, rfl⟩
  | askChallenge n => exact ⟨s, moves_askChallenge s n, rfl⟩
  | askCommit cause n => exact ⟨s, moves_askCommit s cause n, rfl⟩
  | seat n _ _ => exact ⟨s, moves_seat s n, rfl⟩
  | remove n _ _ _ => exact ⟨s, moves_remove s n, rfl⟩
  | endHoldoff n _ => exact ⟨s, moves_endHoldoff s n, rfl⟩
  | loads first written h =>
    cases h with
    | staged _ | keys _ => exact ⟨_, .refl, rfl⟩
    | classes _ _ => exact ⟨_, Moves.foldl (moves_classLoaded first written) _ _, rfl⟩
    | sockets _ => exact ⟨_, Moves.foldl (moves_socketLoaded _) _ _, rfl⟩
    | settings _ => exact ⟨_, moves_settingsLoaded _, rfl⟩

theorem Move.busSound {s t : State} (m : Move s t) (hs : s.busSound) : t.busSound := by
  cases m with
  | place n k =>
    unfold State.busPlace
    split
    · exact hs
    · rename_i hnot
      exact { hs with nodup := List.nodup_append_comm.mp (List.nodup_cons.mpr ⟨hnot, hs.nodup⟩) }
  | purge n =>
    exact { hs with
      nodup := hs.nodup.filter _
      busy := by
        have hbusy := hs.busy
        rwa [← Option.isSome_map] at hbusy }
  | unbind n =>
    obtain ⟨f, h⟩ := writeAccount_eq s n
    rw [h]
    exact hs
  | watch n w => exact { hs with }
  | _ => exact hs

theorem SupplyWork.busSound {s t : State} (w : SupplyWork s t) (hs : s.busSound) : t.busSound := by
  obtain ⟨u, m, h⟩ := w.moves
  exact m.keeps (fun _ _ m => m.busSound) (busSound_of_eq hs h)

/-! ### The consideration of the queue -/

/-- A request taken is a DEBIT that is dropped, or begins: a CHALLENGE and a DEBIT with the nonce register's next value (R82, R102). -/
theorem beginTransaction_cases (s : State) (r : BusRequest) :
    s.beginTransaction r = s.dropDebit r.slot
      ∨ ∃ x d nonce commits,
          s.beginTransaction r = ({ s with nonce := nonce, commits := commits } : State).putInFlight r.slot r.kind x d
          ∧ (r.kind = .identify ∧ nonce = s.nonce ∨ r.kind ≠ .identify ∧ nonce = s.nonce + nonceStep ∧ x = nonce) := by
  unfold State.beginTransaction
  split
  · rename_i hk
    exact .inr ⟨0#32, 0, s.nonce, s.commits, by rw [hk], .inl ⟨hk, rfl⟩⟩
  · rename_i hk
    exact .inr ⟨_, 0, s.nonce + nonceStep, s.commits, by rw [hk]; rfl, .inr ⟨by rw [hk]; nofun, rfl, rfl⟩⟩
  · rename_i hk
    dsimp only
    split
    · exact .inl rfl
    · obtain ⟨c, hc⟩ := recordFlight_eq s.advanceNonce r.slot (s.debitAmount r.slot)
      exact .inr ⟨s.nonce + nonceStep, s.debitAmount r.slot, s.nonce + nonceStep, c, by rw [hk, hc, State.advanceNonce, State.onNonce],
        .inr ⟨by rw [hk]; nofun, rfl, rfl⟩⟩

theorem putInFlight_busSound {s : State} (hs : s.busSound) (hidle : s.bus.status = .idle) (n : Slot) (k : BusKind) (x : Word) (d : Nat) :
    (s.putInFlight n k x d).busSound where
  nodup := hs.nodup
  busy := ⟨fun _ => rfl, fun _ => rfl⟩
  release h := by
    obtain ⟨hfault, _⟩ := hs.release h
    rw [hidle] at hfault
    cases hfault
  timing := hs.timing
  stopped := hs.stopped

theorem takeOne_busSound {s : State} (hs : s.busSound) : s.takeOne.busSound := by
  rcases takeOne_cases s with h | ⟨r, hfree, _, h⟩ <;> rw [h]
  · exact hs
  · obtain ⟨hidle, _⟩ := (isFree_iff _).mp hfree
    have herased : (s.onBus fun b => { b with queue := b.queue.erase r }).busSound := { hs with nodup := hs.nodup.erase r }
    generalize hu : (s.onBus fun b => { b with queue := b.queue.erase r }) = u at herased ⊢
    have hidle : u.bus.status = .idle := by rw [← hu]; exact hidle
    rcases beginTransaction_cases u r with h | ⟨x, d, nonce, c, h, _⟩ <;> rw [h]
    · exact herased
    · exact putInFlight_busSound (s := { u with nonce := nonce, commits := c }) herased hidle r.slot r.kind x d

/-- A course keeps the bus sound, and leaves nothing to take where the queue has been considered since the last work. -/
theorem Course.busSound {s : State} {b c : Bool} {t : State} (h : Course s b c t) (hs : s.busSound) (hb : b = true → s.bus.settled) :
    t.busSound ∧ (c = true → t.bus.settled) := by
  induction h with
  | start => exact ⟨hs, hb⟩
  | @aside _ t u _ e ih =>
    obtain ⟨hsound, hsettled⟩ := ih
    have hbus : u.bus = t.bus := congrArg State.Supply.bus e
    exact ⟨busSound_of_eq hsound (busSide_of_supply e), hbus ▸ hsettled⟩
  | work _ w ih =>
    obtain ⟨hsound, _⟩ := ih
    exact ⟨w.busSound hsound, nofun⟩
  | consider _ ih =>
    obtain ⟨hsound, _⟩ := ih
    exact ⟨considerQueue_keeps (p := State.busSound) (fun _ => takeOne_busSound) _ hsound, fun _ => considerQueue_settled _⟩

/-! ### Events -/

/-- An arrival leaves of the bus all but the slot's watch. -/
theorem arrive_bus (s : State) (n : Slot) :
    (s.arrive n).bus = { s.bus with watches := s.bus.watches.set n.val (.arriving (some s.tables.insertSettle)) } := by
  by_cases he : (s.slot n).state = .empty
  · obtain ⟨_, _, _, h, _⟩ := arrive_empty he
    rw [h]
  · rw [State.arrive, if_neg he]
    rfl

/-- A move that changes watches alone of the bus keeps it settled. -/
theorem busSettled_of_watches {s t : State} (hs : s.busSettled) (m : Moves s t)
    (hbus : ∃ watches, t.bus = { s.bus with watches := watches }) : t.busSettled := by
  obtain ⟨watches, hbus⟩ := hbus
  rw [State.busSettled, hbus, m.run, m.busLow]
  exact hs

theorem startArrival_busSettled {s : State} (hs : s.busSettled) (n : Slot) : (s.startArrival n).busSettled := by
  refine busSettled_of_watches hs (moves_startArrival s n) ?_
  unfold State.startArrival
  split
  · split
    · exact ⟨_, arrive_bus s n⟩
    · exact ⟨s.bus.watches, rfl⟩
  · exact ⟨s.bus.watches, rfl⟩

theorem linePresent_busSettled {s : State} (hs : s.busSettled) (n : Slot) : (s.linePresent n).busSettled := by
  refine busSettled_of_watches hs (moves_linePresent s n) ?_
  unfold State.linePresent
  split
  · exact ⟨_, arrive_bus s n⟩
  · exact ⟨_, rfl⟩
  · exact ⟨_, rfl⟩
  · exact ⟨s.bus.watches, rfl⟩

theorem lineAbsent_busSettled {s : State} (hs : s.busSettled) (n : Slot) : (s.lineAbsent n).busSettled := by
  refine busSettled_of_watches hs (moves_lineAbsent s n) ?_
  unfold State.lineAbsent
  split
  · exact ⟨_, rfl⟩
  · exact ⟨_, rfl⟩
  · exact ⟨s.bus.watches, rfl⟩

/-- Start-up leaves the bus IDLE with nothing queued, and times a line that is low already (R89). -/
theorem loaded_busSettled {s t : State} {straps : BitVec 4} (h : t.supply = (s.loaded straps).supply) : t.busSettled := by
  have hloaded : (s.loaded straps).busSettled :=
    ⟨List.nodup_nil, ⟨nofun, nofun⟩, fun _ => rfl, nofun, id, fun hr => absurd rfl hr⟩
  obtain ⟨hsound, hsettled⟩ := (busSettled_iff _).mp hloaded
  have hbus : t.bus = (s.loaded straps).bus := congrArg State.Supply.bus h
  exact (busSettled_iff t).mpr ⟨busSound_of_eq hsound (busSide_of_supply h), hbus ▸ hsettled⟩

/-- A command's event keeps the bus settled, but for the requests that it leaves to be taken. -/
theorem SupplyEvent.busSound {s : State} {c : Instr} {b : Bool} {t : State} (h : SupplyEvent s c b t) (hs : s.busSettled) :
    t.busSound ∧ (b = true → t.bus.settled) := by
  have whole {t : State} (ht : t.busSettled) : t.busSound ∧ (true = true → t.bus.settled) :=
    ⟨((busSettled_iff t).mp ht).1, fun _ => ((busSettled_iff t).mp ht).2⟩
  obtain ⟨hsound, hsettled⟩ := (busSettled_iff s).mp hs
  cases h with
  | nothing => exact whole hs
  | reset _ => exact ⟨⟨List.nodup_nil, ⟨nofun, nofun⟩, nofun, nofun, fun _ => ⟨rfl, rfl⟩⟩, fun _ _ _ => rfl⟩
  | release hr => exact ⟨{ hsound with stopped := fun _ => hsound.stopped (by rw [hr]; nofun) }, fun _ => hsettled⟩
  | started _ _ hl => exact whole (List.foldlRecOn allSlots _ (loaded_busSettled hl) fun _ hu n _ => startArrival_busSettled hu n)
  | line n reads _ => exact whole hs
  | present n _ _ => exact whole (linePresent_busSettled (s := s.setLine n true) hs n)
  | absent n _ _ => exact whole (lineAbsent_busSettled (s := s.setLine n false) hs n)
  | busLine low hr =>
    obtain ⟨hrelease, htiming⟩ := hsound.stopped hr
    refine ⟨{ hsound with release := fun h => ?_, timing := fun h => ?_ }, fun _ => hsettled⟩
    · exact absurd (hrelease.symm.trans h) nofun
    · exact absurd (htiming.symm.trans h) nofun
  | released hr hlow =>
    have hrelease : s.bus.releaseTimer = false := Bool.eq_false_iff.mpr fun h => by
      obtain ⟨_, hhigh⟩ := hsound.release h
      rw [hhigh] at hlow
      cases hlow
    refine ⟨⟨hsound.nodup, ?_, fun h => ⟨?_, rfl⟩, nofun, fun hn => absurd hr hn⟩, fun _ hi hf =>
      hsettled hi (Option.map_eq_none_iff.mp hf)⟩
    · exact (Bool.coe_iff_coe.mpr Option.isSome_map).trans hsound.busy
    · by_contra hnot
      exact absurd ((if_neg hnot).symm.trans h) (by rw [hrelease]; nofun)
  | pulledLow hr =>
    exact ⟨{ hsound with release := nofun, timing := fun _ => rfl, stopped := fun hn => absurd hr hn }, fun _ => hsettled⟩
  | sent =>
    refine ⟨{ hsound with busy := ?_ }, fun _ hi hf => hsettled hi (Option.map_eq_none_iff.mp hf)⟩
    exact (Bool.coe_iff_coe.mpr Option.isSome_map).trans hsound.busy
  | ended hf =>
    have hbusy : s.bus.status = .busy := hsound.busy.mp (by rw [hf]; rfl)
    refine ⟨⟨hsound.nodup, ⟨nofun, fun h => ?_⟩, fun h => ?_, hsound.timing, hsound.stopped⟩, nofun⟩
    · have hidle : (s.onBus Bus.ended).bus.status = .idle := if_neg (by rw [hbusy]; nofun)
      rw [hidle] at h
      cases h
    · obtain ⟨hfault, _⟩ := hsound.release h
      rw [hbusy] at hfault
      cases hfault
  | stuck => exact ⟨⟨hsound.nodup, ⟨nofun, nofun⟩, nofun, nofun, fun _ => ⟨rfl, rfl⟩⟩, fun _ => nofun⟩
  | freed hfault =>
    refine ⟨⟨hsound.nodup, ⟨fun h => ?_, nofun⟩, nofun, hsound.timing, fun hr => ⟨rfl, (hsound.stopped hr).2⟩⟩, nofun⟩
    have hbusy := hsound.busy.mp h
    rw [hfault] at hbusy
    cases hbusy

/-- Settles O12: an event and the course that follows keep the bus sound, and the course ends with its queue considered. -/
theorem supplyBusStaysSettled : Obligations.SupplyBusStaysSettled := by
  intro s t hs h
  unfold step at h
  split at h
  · obtain ⟨b, u, he, hrest⟩ := exec_runs _ _ t h
    obtain ⟨hsound, hsettled⟩ := he.busSound hs
    refine (busSettled_iff t).mpr ?_
    rcases hrest with ⟨hb, rfl⟩ | ⟨_, hcourse⟩
    · exact ⟨hsound, hsettled hb⟩
    · obtain ⟨hsound, hsettled⟩ := hcourse.busSound hsound hsettled
      exact ⟨hsound, hsettled rfl⟩
  · cases h
    exact hs

end Sys2Proof.Machine
end

section
/-! PROOFS. O22: the nonce register advances with a CHALLENGE or DEBIT that begins, and at no other time (R82, R102). -/

namespace Sys2Proof.Machine

/-- A CHALLENGE or DEBIT is in flight that carries a nonce and has not been answered. -/
def Bus.carries (b : Bus) (x : Word) : Prop :=
  ∃ f, b.flight = some f ∧ f.nonce = x ∧ f.kind ≠ .identify ∧ f.stage ≠ .awaiting

/-- The nonce register has a value, or the next one with a transaction that carries it. -/
def State.nonceFrom (x : Word) (s : State) : Prop :=
  s.nonce = x ∨ s.nonce = x + nonceStep ∧ s.bus.carries s.nonce

theorem nonceFrom_of_eq {x : Word} {s t : State} (hs : s.nonceFrom x) (h : t.busSide = s.busSide) : t.nonceFrom x := by
  simp only [State.busSide, Prod.mk.injEq] at h
  obtain ⟨_, _, hbus, hnonce⟩ := h
  rw [State.nonceFrom, hbus, hnonce]
  exact hs

/-- A purge marks the transaction in flight and leaves what it carries (R88). -/
theorem purge_carries {s : State} {x : Word} (h : s.bus.carries x) (n : Slot) : (s.purge n).bus.carries x := by
  obtain ⟨f, hf, hcarried⟩ := h
  refine ⟨if f.slot = n then { f with slotLeft := true } else f, ?_, ?_⟩
  · simp [State.purge, State.onBus, hf]
  · split <;> exact hcarried

theorem Move.nonceFrom {x : Word} {s t : State} (m : Move s t) (hs : s.nonceFrom x) : t.nonceFrom x := by
  cases m with
  | place n k =>
    obtain ⟨q, h⟩ := busPlace_eq s n k
    rw [h]
    exact hs
  | purge n => exact hs.imp_right fun ⟨hx, hc⟩ => ⟨hx, purge_carries hc n⟩
  | unbind n =>
    obtain ⟨f, h⟩ := writeAccount_eq s n
    rw [h]
    exact hs
  | _ => exact hs

theorem SupplyWork.nonceFrom {x : Word} {s t : State} (w : SupplyWork s t) (hs : s.nonceFrom x) : t.nonceFrom x := by
  obtain ⟨u, m, h⟩ := w.moves
  exact m.keeps (fun _ _ m => m.nonceFrom) (nonceFrom_of_eq hs h)

/-- A request is taken only with nothing in flight, so that what advances the register is the first transaction to begin. -/
theorem takeOne_nonceFrom {x : Word} {s : State} (hs : s.nonceFrom x) : s.takeOne.nonceFrom x := by
  rcases takeOne_cases s with h | ⟨r, hfree, _, h⟩ <;> rw [h]
  · exact hs
  · obtain ⟨_, hnone⟩ := (isFree_iff _).mp hfree
    have hx : s.nonce = x := hs.resolve_right fun ⟨_, f, hf, _⟩ => by
      rw [hnone] at hf
      cases hf
    generalize hu : (s.onBus fun b => { b with queue := b.queue.erase r }) = u
    have hux : u.nonce = x := by rw [← hu]; exact hx
    rcases beginTransaction_cases u r with h | ⟨y, d, nonce, c, h, ⟨_, hn⟩ | ⟨hk, hn, hy⟩⟩ <;> rw [h]
    · exact .inl hux
    · exact .inl (hn.trans hux)
    · refine .inr ⟨hn.trans (congrArg (· + nonceStep) hux), _, rfl, hy, hk, ?_⟩
      dsimp only
      split <;> nofun

theorem Course.nonceFrom {x : Word} {s : State} {b c : Bool} {t : State} (h : Course s b c t) (hs : s.nonceFrom x) : t.nonceFrom x := by
  induction h with
  | start => exact hs
  | aside _ e ih => exact nonceFrom_of_eq ih (busSide_of_supply e)
  | work _ w ih => exact w.nonceFrom ih
  | consider _ ih => exact considerQueue_keeps (p := State.nonceFrom x) (fun _ => takeOne_nonceFrom) _ ih

/-- No command's event but start-up's changes the nonce register. -/
theorem SupplyEvent.nonce {s : State} {c : Instr} {b : Bool} {t : State} (h : SupplyEvent s c b t)
    (hc : ∀ straps, c ≠ .startUp straps) : t.nonce = s.nonce := by
  cases h with
  | started straps hstart _ => exact absurd hstart (hc straps)
  | present n _ _ => exact (moves_linePresent (s.setLine n true) n).nonce
  | absent n _ _ => exact (moves_lineAbsent (s.setLine n false) n).nonce
  | _ => rfl

/-- Settles O22: the event leaves the register, and the course from it advances it at most once. -/
theorem nonceAdvancesWithATransaction : Obligations.NonceAdvancesWithATransaction := by
  intro c s t hc h
  obtain ⟨b, u, he, hrest⟩ := exec_runs c s t h
  have hu : u.nonceFrom s.nonce := .inl (he.nonce fun straps hstart => by rw [hstart] at hc; exact hc)
  rcases hrest with ⟨_, rfl⟩ | ⟨_, hcourse⟩
  · exact hu
  · exact hcourse.nonceFrom hu

end Sys2Proof.Machine
end

section
/-! PROOFS. What the units leave of the presence watches and of the slots that hold a cartridge, said once: between the reports of the
watches no watch moves, of the bus only the queue changes, and a slot is neither emptied nor filled (`Seats`). -/

namespace Sys2Proof.Machine

/-! ### Slots that hold a cartridge -/

/-- The slot has a cartridge seated in its socket: it is neither EMPTY nor SETTLING (R91). -/
def SlotState.isSeated : SlotState → Bool
  | .empty | .settling => false
  | _ => true

theorem isSeated_of_isProven {st : SlotState} (h : st.isProven = true) : st.isSeated = true := by
  revert h
  cases st <;> decide

/-- The bus changes its queue alone, and every slot keeps its state, or stays seated in another. -/
structure Seats (s t : State) : Prop where
  bus : ∃ q, t.bus = { s.bus with queue := q }
  state : ∀ m, (t.slot m).state = (s.slot m).state ∨ (s.slot m).state.isSeated = true ∧ (t.slot m).state.isSeated = true

theorem Seats.seated {s t : State} (h : Seats s t) {n : Slot} (hn : (s.slot n).state.isSeated = true) :
    (t.slot n).state.isSeated = true := by
  rcases h.state n with e | ⟨_, ht⟩
  · rw [e]
    exact hn
  · exact ht

theorem Seats.refl (s : State) : Seats s s := ⟨⟨_, rfl⟩, fun _ => .inl rfl⟩

theorem Seats.trans {s t u : State} (h : Seats s t) (g : Seats t u) : Seats s u where
  bus := by
    obtain ⟨q, hq⟩ := h.bus
    obtain ⟨r, hr⟩ := g.bus
    exact ⟨r, by rw [hr, hq]⟩
  state m := by
    rcases h.state m with e | ⟨hs, ht⟩
    · rw [← e]
      exact g.state m
    · exact .inr ⟨hs, g.seated ht⟩

theorem Seats.ite {s t u : State} {p : Prop} [Decidable p] (h : p → Seats s t) (g : ¬p → Seats s u) :
    Seats s (if p then t else u) := by
  split
  · exact h ‹_›
  · exact g ‹_›

theorem Seats.foldl {α : Type} {g : State → α → State} (hg : ∀ s a, Seats s (g s a)) (l : List α) (s : State) :
    Seats s (l.foldl g s) :=
  List.foldlRecOn l _ (.refl s) fun _ ht a _ => ht.trans (hg _ a)

/-- An operation that leaves the bus and the slots. -/
theorem seats_same {s t : State} (hb : t.bus = s.bus := by rfl) (hl : t.slots = s.slots := by rfl) : Seats s t :=
  ⟨⟨s.bus.queue, hb⟩, fun m => .inl (by rw [State.slot, hl]; rfl)⟩

/-- An operation that changes one slot's record and leaves the bus. -/
theorem seats_of_changeAt {s t : State} {n : Slot} {f : SlotRecord → SlotRecord} (hb : t.bus = s.bus)
    (hl : t.slots = changeAt s.slots n f)
    (hf : (f (s.slot n)).state = (s.slot n).state ∨ (s.slot n).state.isSeated = true ∧ (f (s.slot n)).state.isSeated = true) :
    Seats s t := by
  refine ⟨⟨s.bus.queue, hb⟩, fun m => ?_⟩
  by_cases hm : m = n
  · subst hm
    rw [slot_of_changeAt hl]
    exact hf
  · rw [slot_of_changeAt_ne hl hm]
    exact .inl rfl

theorem seats_slot (s : State) (n : Slot) (f : SlotRecord → SlotRecord) (h : ∀ r, (f r).state = r.state := by intro r; rfl) :
    Seats s (s.onSlot n f) :=
  seats_of_changeAt rfl (State.onSlot_slots s n f) (.inl (h _))

/-! ### Gating and metering -/

theorem State.Judges.bus {s t : State} (h : s.Judges t) : t.bus = s.bus := by
  obtain ⟨_, _, _, rfl, _⟩ := h
  rfl

theorem seats_reEvaluate (s : State) (n : Slot) : Seats s (s.reEvaluate n) :=
  seats_same (judges_reEvaluate s n).bus (reEvaluate_slots s n)

theorem seats_recompute (s : State) (n : Slot) : Seats s (s.recompute n) :=
  seats_of_changeAt (judges_recompute s n).bus (recompute_slots s n) (.inl rfl)

theorem seats_changeState {s : State} {n : Slot} {st : SlotState} (h : (s.slot n).state.isSeated = true) (hst : st.isSeated = true) :
    Seats s (s.changeState n st) :=
  seats_of_changeAt (judges_changeState s n st).bus (changeState_slots s n st) (.inr ⟨h, hst⟩)

theorem seats_meterInto (s : State) (lines : List RecordLine) (n : Slot) : Seats s (s.meterInto lines n) := by
  unfold State.meterInto
  exact Seats.trans (Seats.trans (t := s.setResidue n _) seats_same (seats_slot _ n _)) (seats_reEvaluate _ n)

theorem seats_meterGroup (record : List RecordLine) (s : State) (n : Slot) : Seats s (State.meterGroup record s n) := by
  unfold State.meterGroup
  exact .ite (fun _ => .refl s) fun _ => (seats_meterInto s _ n).trans (seats_recompute _ n)

theorem meterInto_bus (s : State) (lines : List RecordLine) (n : Slot) : (s.meterInto lines n).bus = s.bus := by
  unfold State.meterInto
  exact (judges_reEvaluate _ n).bus

theorem interimMetering_bus (s : State) (n : Slot) : (s.interimMetering n).bus = s.bus := by
  unfold State.interimMetering State.clearDrops
  split
  · exact (State.onSwath_bus _ _).trans (meterInto_bus s _ n)
  · rfl

/-! ### Asking for supply work -/

theorem seats_place (s : State) (n : Slot) (k : BusKind) : Seats s (s.busPlace n k) := by
  obtain ⟨q, h⟩ := busPlace_eq s n k
  rw [h]
  exact ⟨⟨q, rfl⟩, fun _ => .inl rfl⟩

theorem seats_askChallenge (s : State) (n : Slot) : Seats s (s.askChallenge n) := by
  have ask : Seats s (if s.sequenceOpen n then s.busPlace n .challenge
      else (s.onSlot n fun r => { r with allowance := s.tables.aRun, attempts := 0 }).busPlace n .challenge) :=
    .ite (fun _ => seats_place s n _) fun _ => (seats_slot s n _).trans (seats_place _ n _)
  unfold State.askChallenge
  split
  · exact ask
  · exact ask
  · exact seats_place s n _
  · exact .refl s

theorem seats_commit (s : State) (n : Slot) (f : CommitRecord → CommitRecord) : Seats s (s.onCommit n f) := seats_same

theorem seats_askCommit (s : State) (cause : CommitCause) (n : Slot) : Seats s (s.askCommit cause n) := by
  refine .ite (fun _ => ?_) fun _ => .refl s
  unfold State.commitByPhase
  split
  · exact (seats_place s n _).trans (seats_commit _ n _)
  · exact seats_place s n _
  · exact seats_commit s n _
  · exact .refl s
  · exact (seats_commit s n _).trans (seats_askChallenge _ n)
  · exact .refl s

theorem seats_recheck (s : State) (n : Slot) : Seats s (s.recheck n) :=
  .ite (fun _ => seats_askCommit s .close n) fun _ => .refl s

theorem seats_settleEnd (s : State) (n : Slot) : Seats s (s.settleEnd n) := by
  refine (seats_recheck s n).trans ?_
  change Seats _ (State.actFollowOn _ n)
  unfold State.actFollowOn
  refine .ite (fun _ => ?_) fun _ => .refl _
  exact .ite (fun _ => seats_commit _ n _) fun _ => (seats_commit _ n _).trans (seats_askCommit _ _ n)

theorem seats_countDown (s : State) (n : Slot) : Seats s (s.countDown n) := by
  unfold State.countDown
  refine .ite (fun _ => ?_) fun _ => .refl s
  exact .ite (fun _ => (seats_slot s n _).trans (seats_askChallenge _ n)) fun _ => seats_slot s n _

theorem seats_handOver (s : State) (d : Descriptor) : Seats s (s.handOver d) := by
  unfold State.handOver State.meterRecord
  exact ((Seats.foldl (seats_meterGroup _) allSlots s).trans (Seats.foldl seats_recheck allSlots _)).trans
    (Seats.foldl seats_countDown allSlots _)

/-! ### The Integrity Monitor -/

theorem seats_raiseSlot (s : State) (k : EventKind) (n : Slot) : Seats s (s.raiseSlot k n) := seats_same

theorem seats_entry (s : State) (serial : Word) (f : Entry → Entry) : Seats s (s.onEntry serial f) := seats_same

theorem seats_boundEntry (s : State) (n : Slot) (f : Entry → Entry) : Seats s (s.onBoundEntry n f) := by
  obtain ⟨g, h⟩ := onBoundEntry_eq s n f
  rw [h]
  exact seats_same

theorem seats_setMark (s : State) (serial : Word) : Seats s (s.setMark serial) := by
  unfold State.setMark
  dsimp only
  split
  · refine .ite (fun _ => ?_) fun _ => .refl s
    split
    · refine Seats.trans (.ite (fun hg => ?_) fun _ => seats_entry s serial _) (seats_raiseSlot _ _ _)
      exact (seats_entry s serial _).trans (seats_changeState (s := s.onEntry serial _) (congrArg SlotState.isSeated hg) rfl)
    · exact seats_entry s serial _
  · exact .refl s

theorem seats_clearMark (s : State) (serial : Word) : Seats s (s.clearMark serial) := by
  unfold State.clearMark
  dsimp only
  split
  · refine .ite (fun _ => ?_) fun _ => .refl s
    split
    · refine .ite (fun hg => ?_) fun _ => seats_entry s serial _
      exact (seats_entry s serial _).trans (seats_changeState (s := s.onEntry serial _) (congrArg SlotState.isSeated hg) rfl)
    · exact seats_entry s serial _
  · exact .refl s

theorem seats_settleMark (s : State) (serial : Word) : Seats s (s.settleMark serial) :=
  (seats_setMark s serial).trans (seats_clearMark _ serial)

theorem seats_addWeight (s : State) (serial : Word) (weight : Nat) : Seats s (s.addWeight serial weight) :=
  .ite (fun _ => .refl s) fun _ => (seats_entry s serial _).trans (seats_setMark _ serial)

theorem seats_settingsLoaded (s : State) : Seats s s.settingsLoaded :=
  (Seats.foldl seats_reEvaluate allSlots s).trans
    (Seats.foldl (g := fun t (e : Entry) => t.settleMark e.serial) (fun t e => seats_settleMark t e.serial) _ _)

theorem seats_bindingChecks (s : State) (found : Option Entry) (id : Identity) (ceiling : Nat) :
    Seats s (s.bindingChecks found id ceiling) := by
  unfold State.bindingChecks
  dsimp only
  refine Seats.trans ?_ (.ite (fun _ => seats_addWeight _ _ _) fun _ => .refl _)
  split
  · refine .ite (fun _ => ?_) fun _ => .ite (fun _ => seats_addWeight s _ _) fun _ => .refl s
    exact .ite (fun _ => seats_addWeight s _ _) fun _ => seats_entry s _ _
  · exact .refl s

theorem seats_endBinding (s : State) (serial : Word) (n : Slot) : Seats s (s.endBinding serial n) := by
  unfold State.endBinding
  dsimp only
  refine (seats_setMark s serial).trans ?_
  split
  · exact .ite (fun _ => seats_raiseSlot _ _ _) fun _ => .refl _
  · exact .refl _

theorem seats_checkLevel (s : State) (n : Slot) (b : Binding) (e : Entry) (first : Bool) (reported : Nat) :
    Seats s (s.checkLevel n b e first reported).2 := by
  unfold State.checkLevel
  dsimp only
  split
  · exact (seats_entry s _ _).trans (seats_slot _ n _)
  · have level (l : Nat) : Seats s (s.onSlot n fun r => { r with level := some l }) := seats_slot s n _
    have raised (l : Nat) : Seats s (if first then (s.onSlot n fun r => { r with level := some l }).onEntry e.serial
        (raiseGeneration b.identity.generation) else s.onSlot n fun r => { r with level := some l }) :=
      .ite (fun _ => (level l).trans (seats_entry _ _ _)) fun _ => level l
    exact .ite (fun _ => (raised _).trans (seats_raiseSlot _ _ _)) fun _ => raised _

theorem seats_loadCarried (s : State) (n : Slot) (serial : Word) : Seats s (s.loadCarried n serial) := by
  unfold State.loadCarried
  exact ((seats_slot s n _).trans (seats_entry _ _ _)).trans (seats_reEvaluate _ n)

theorem seats_followLevel (s : State) (n : Slot) : Seats s (s.followLevel n) := by
  unfold State.followLevel
  split
  · exact seats_boundEntry s n _
  · exact .refl s

theorem seats_markExhausted (s : State) (n : Slot) : Seats s (s.markExhausted n) :=
  .ite (fun _ => seats_boundEntry s n _) fun _ => .refl s

theorem seats_adjustCount (s : State) (serial : Word) (finding : LevelFinding) : Seats s (s.adjustCount serial finding) :=
  .ite (fun _ => seats_entry s serial _) fun _ => seats_entry s serial _

theorem seats_judgeLevel (s : State) (n : Slot) (reported : Nat) : Seats s (s.judgeLevel n reported) := by
  unfold State.judgeLevel
  dsimp only
  split
  · exact .refl s
  · split
    · exact .refl s
    · refine Seats.trans (Seats.trans (Seats.trans ?_ (seats_adjustCount _ _ _)) (seats_settleMark _ _)) (seats_recompute _ n)
      refine Seats.trans (Seats.trans ?_ (seats_followLevel _ n)) (seats_markExhausted _ n)
      exact (seats_checkLevel s n _ _ _ _).trans (.ite (fun _ => seats_loadCarried _ n _) fun _ => .refl _)

theorem seats_checkConfirmation (s : State) (n : Slot) (newLevel : Nat) : Seats s (s.checkConfirmation n newLevel) := by
  unfold State.checkConfirmation
  split
  · exact .ite (fun _ => seats_raiseSlot s _ _) fun _ => .refl s
  · exact .refl s

/-! ### The Commit Unit -/

theorem seats_lowerAccount (s : State) (n : Slot) (d : Nat) : Seats s (s.lowerAccount n d) := by
  unfold State.lowerAccount
  exact (((seats_slot s n _).trans (seats_followLevel _ n)).trans (seats_markExhausted _ n)).trans (seats_reEvaluate _ n)

theorem seats_confirmDebit (s : State) (n : Slot) (d newLevel : Nat) : Seats s (s.confirmDebit n d newLevel) :=
  ((((seats_lowerAccount s n d).trans (seats_commit _ n _)).trans (seats_checkConfirmation _ n newLevel)).trans
    (seats_recompute _ n)).trans (seats_settleEnd _ n)

theorem seats_mismatchDebit (s : State) (n : Slot) (d : Nat) (serial : Word) : Seats s (s.mismatchDebit n d serial) :=
  (((((seats_lowerAccount s n d).trans (seats_addWeight _ serial _)).trans (seats_commit _ n _)).trans
    (seats_askChallenge _ n)).trans (seats_recompute _ n)).trans (seats_settleEnd _ n)

theorem seats_doubtDebit (s : State) (n : Slot) (d preLevel : Nat) : Seats s (s.doubtDebit n d preLevel) :=
  ((seats_commit s n _).trans (seats_raiseSlot _ _ _)).trans (seats_askChallenge _ n)

theorem seats_settleOrphan (s : State) (o : Orphan) (outcome : BusOutcome) : Seats s (s.settleOrphan o outcome) := by
  have hcleared : Seats s (s.setOrphan none) := seats_same
  unfold State.settleOrphan
  refine hcleared.trans ?_
  split
  · exact .ite (fun _ => seats_entry _ _ _) fun _ => (seats_entry _ _ _).trans (seats_addWeight _ _ _)
  · exact seats_raiseSlot _ _ _
  · exact seats_raiseSlot _ _ _

theorem seats_debitOutcome (s : State) (n : Slot) (outcome : BusOutcome) : Seats s (s.debitOutcome n outcome) := by
  unfold State.debitOutcome
  split
  · exact seats_settleOrphan s _ outcome
  · split
    · split
      · exact .ite (fun _ => seats_confirmDebit s n _ _) fun _ => seats_mismatchDebit s n _ _
      · exact seats_doubtDebit s n _ _
      · exact seats_doubtDebit s n _ _
    · exact .refl s

theorem seats_resolve (s : State) (n : Slot) (r : Resolution) : Seats s (s.resolve n r) := by
  cases r with
  | nothing => exact .refl s
  | slotApplied d => exact ((seats_boundEntry s n _).trans (seats_lowerAccount _ n d)).trans (seats_commit _ n _)
  | slotNotApplied => exact (seats_boundEntry s n _).trans (seats_commit _ n _)
  | entryApplied d => exact seats_boundEntry s n _
  | entryNotApplied => exact seats_boundEntry s n _

theorem seats_resolutionEnd (s : State) (n : Slot) (r : Resolution) : Seats s (s.resolutionEnd n r) := by
  cases r with
  | slotApplied _ => exact seats_settleEnd s n
  | slotNotApplied => exact (seats_askCommit s .notApplied n).trans (seats_commit _ n _)
  | entryNotApplied => exact seats_askCommit s .notApplied n
  | nothing | entryApplied _ => exact .refl s

/-! ### The Authentication Unit -/

theorem unbindCommit_bus (s : State) (n : Slot) : (s.unbindCommit n).bus = s.bus := by
  have bound (f : Entry → Entry) : (s.onBoundEntry n f).bus = s.bus := by
    obtain ⟨g, h⟩ := onBoundEntry_eq s n f
    rw [h]
    rfl
  unfold State.unbindCommit
  dsimp only
  rw [State.onCommit_bus]
  split
  · exact bound _
  · exact bound _
  · rfl

/-- Leaving a cartridge leaves the bus. -/
theorem unbind_bus (s : State) (n : Slot) (st : SlotState) : (s.unbind n st).bus = s.bus := by
  unfold State.unbind
  dsimp only
  refine (judges_changeState _ n st).bus.trans ?_
  refine Eq.trans ?_ (interimMetering_bus s n)
  rw [State.clearAccount, State.onSlot_bus, State.setResidue_bus]
  split
  · obtain ⟨f, h⟩ := writeAccount_eq ((s.interimMetering n).unbindCommit n) n
    rw [h]
    exact unbindCommit_bus _ n
  · rfl

theorem seats_unbind {s : State} {n : Slot} {st : SlotState} (h : (s.slot n).state.isSeated = true) (hst : st.isSeated = true) :
    Seats s (s.unbind n st) :=
  seats_of_changeAt (unbind_bus s n st) (unbind_slots s n st) (.inr ⟨h, hst⟩)

theorem seats_giveUp {s : State} {n : Slot} (h : (s.slot n).state.isSeated = true) : Seats s (s.giveUp n) := by
  unfold State.giveUp
  exact Seats.trans (.ite (fun _ => seats_unbind h rfl) fun _ => seats_changeState h rfl) (seats_raiseSlot _ _ _)

theorem seats_holdOff {s : State} {n : Slot} (h : (s.slot n).state.isSeated = true) : Seats s (s.holdOff n) := by
  have hheld : Seats s (s.onSlot n (s.heldOff n)) := seats_slot s n _
  exact (hheld.trans (seats_changeState (hheld.seated h) rfl)).trans (seats_raiseSlot _ _ _)

theorem seats_fail {s : State} {n : Slot} (h : (s.slot n).state.isSeated = true) (k : BusKind) : Seats s (s.fail n k) := by
  have hcounted : Seats s (s.onSlot n fun r => { r with attempts := (s.slot n).attempts + 1 }) := seats_slot s n _
  have hseated := hcounted.seated h
  unfold State.fail
  refine hcounted.trans (.ite (fun _ => ?_) fun _ => ?_)
  · unfold State.retry
    split
    · exact seats_askChallenge _ n
    · exact seats_place _ n _
  · exact .ite (fun _ => seats_giveUp hseated) fun _ => seats_holdOff hseated

theorem seats_retry (s : State) (n : Slot) (k : BusKind) : Seats s (s.retry n k) := by
  unfold State.retry
  split
  · exact seats_askChallenge s n
  · exact seats_place s n _

theorem seats_reject {s : State} {n : Slot} {st : SlotState} (h : (s.slot n).state.isSeated = true) (hst : st.isSeated = true) :
    Seats s (s.reject n st) :=
  (seats_changeState h hst).trans (seats_raiseSlot _ _ _)

theorem seats_bind (s : State) (n : Slot) (id : Identity) (c : Fin 16) : Seats s (s.bind n id c) := by
  have hbound : Seats s (s.bindTo n id c) := seats_of_changeAt rfl (bindTo_slots s n id c) (.inl rfl)
  exact (hbound.trans (seats_bindingChecks _ _ _ _)).trans (seats_endBinding _ _ n)

theorem seats_settleBinding {s : State} {n : Slot} (h : (s.slot n).state.isSeated = true) (id : Identity) (c : Fin 16) (reused : Bool) :
    Seats s (s.settleBinding n id c reused) :=
  .ite (fun _ => seats_reject h rfl) fun _ => .ite (fun _ => seats_reject h rfl) fun _ =>
    (seats_changeState h rfl).trans (seats_askChallenge _ n)

theorem seats_identification {s : State} {n : Slot} (h : (s.slot n).state.isSeated = true) (id : Identity) :
    Seats s (s.identification n id) := by
  have hcleared : Seats s (s.onSlot n fun r => { r with attempts := 0 }) := seats_slot s n _
  have hseated := hcleared.seated h
  unfold State.identification
  split
  · exact hcleared.trans (seats_reject hseated rfl)
  · rename_i c _
    refine hcleared.trans (.ite (fun _ => seats_reject hseated rfl) fun _ => ?_)
    have hbound := seats_bind (s.onSlot n fun r => { r with attempts := 0 }) n id c
    exact hbound.trans (seats_settleBinding (hbound.seated hseated) id _ _)

theorem seats_reidentification {s : State} {n : Slot} (h : (s.slot n).state.isSeated = true) (b : Binding) (id : Identity) :
    Seats s (s.reidentification n b id) := by
  refine .ite (fun _ => ?_) fun _ => seats_fail h .identify
  have hcleared : Seats s (s.onSlot n fun r => { r with attempts := 0 }) := seats_slot s n _
  exact (hcleared.trans (seats_changeState (hcleared.seated h) rfl)).trans (seats_askChallenge _ n)

theorem seats_identifyOutcome (s : State) (n : Slot) (outcome : BusOutcome) : Seats s (s.identifyOutcome n outcome) := by
  refine .ite (fun h => ?_) fun _ => .refl s
  have hseated : (s.slot n).state.isSeated = true := by
    rw [h]
    rfl
  split
  · split
    · exact seats_identification hseated _
    · exact seats_reidentification hseated _ _
  · exact seats_fail hseated .identify
  · exact seats_retry s n .identify

theorem seats_enterProven (s : State) (n : Slot) : Seats s (s.enterProven n) := by
  refine .ite (fun h => ?_) fun _ => .refl s
  have hproven : Seats s ((s.raiseSlot .genuine n).onSlot n fun r => { r with proven := true }) :=
    (seats_raiseSlot s _ n).trans (seats_slot _ n _)
  refine hproven.trans (seats_changeState (hproven.seated (by rw [h]; rfl)) ?_)
  split <;> rfl

theorem seats_succeed (s : State) (n : Slot) (level : Nat) : Seats s (s.succeed n level) := by
  have hended := (((((seats_slot s n fun r => { r with attempts := 0, round := 0 }).trans
    (seats_resolve _ n (s.resolution n level))).trans (seats_judgeLevel _ n level)).trans (seats_enterProven _ n)).trans
      (seats_slot _ n fun r => { r with countdown := s.tables.interval })).trans (seats_resolutionEnd _ n (s.resolution n level))
  exact .ite (fun _ => hended.trans (seats_recheck _ n)) fun _ => hended

theorem seats_challengeOutcome (s : State) (n : Slot) (nonce : Word) (outcome : BusOutcome) :
    Seats s (s.challengeOutcome n nonce outcome) := by
  refine .ite (fun h => ?_) fun _ => .refl s
  have hseated : (s.slot n).state.isSeated = true := h.elim (fun h => by rw [h]; rfl) isSeated_of_isProven
  split
  · split
    · have hweighed := seats_addWeight s
      exact .ite (fun _ => seats_succeed s n _) fun _ => (hweighed _ _).trans (seats_fail ((hweighed _ _).seated hseated) .challenge)
    · exact .refl s
  · exact seats_fail hseated .challenge
  · exact seats_retry s n .challenge

/-- The delivery of an outcome (R87, R88). -/
theorem seats_deliver (s : State) (f : Flight) (outcome : BusOutcome) : Seats s (s.deliver f outcome) := by
  unfold State.deliver
  split
  · exact seats_debitOutcome s _ outcome
  · exact .ite (fun _ => .refl s) fun _ => seats_identifyOutcome s _ outcome
  · exact .ite (fun _ => .refl s) fun _ => seats_challengeOutcome s _ _ outcome

/-! ### Presence and the class table -/

/-- A slot that starts to identify its cartridge takes this record (R93, R110). -/
def SlotRecord.identified (t : Tables) (allowance : Nat) (r : SlotRecord) : SlotRecord :=
  { r.turned t .identifying with allowance := allowance, attempts := 0 }

theorem identify_slots (s : State) (n : Slot) (allowance : Nat) :
    (s.identify n allowance).slots = changeAt s.slots n (SlotRecord.identified s.tables allowance) := by
  rw [State.identify, busPlace_slots, State.onSlot_slots, changeState_slots, changeAt_changeAt]
  rfl

theorem seats_endHoldoff {s : State} {n : Slot} (h : (s.slot n).state = .holdoff) : Seats s (s.endHoldoff n) := by
  have hstopped : Seats s (s.onSlot n fun r => { r with holdoff := none }) := seats_slot s n _
  refine hstopped.trans (Seats.trans (Seats.trans (seats_changeState (hstopped.seated ?_) rfl) (seats_slot _ n _)) (seats_place _ n _))
  rw [h]
  rfl

theorem seats_classLoaded (first written : Nat) (s : State) (n : Slot) : Seats s (State.classLoaded first written s n) := by
  unfold State.classLoaded
  split
  · refine .ite (fun _ => ?_) fun _ => .refl s
    exact (((seats_slot s n _).trans (seats_followLevel _ n)).trans (seats_recompute _ n)).trans (seats_reEvaluate _ n)
  · exact .refl s

end Sys2Proof.Machine
end

section
/-! PROOFS. O16: every presence watch agrees with its slot's state, its enable and its line (R73, R78, R91). -/

namespace Sys2Proof.Machine

/-! ### A slot and its watch -/

/-- What O16 looks at of a slot. -/
structure Socket where
  run : RunPhase
  enabled : Bool
  present : Bool
  watch : Watch
  state : SlotState

def State.socket (s : State) (n : Slot) : Socket :=
  ⟨s.run, s.tables.sockets[n].enabled, s.present[n], s.watch n, (s.slot n).state⟩

def Socket.Agrees (k : Socket) : Prop :=
  (k.watch = .disabled ↔ k.enabled = false) ∧ k.watch.allows k.state
    ∧ (k.run = .running → ∀ b, k.watch.reads = some b → k.present = b)
    ∧ k.watch.settleTimer.isSome = (k.run == .running && k.watch.isSettling)

theorem watchesAgree_iff (s : State) : s.watchesAgree ↔ ∀ n, (s.socket n).Agrees := Iff.rfl

/-- Where only one slot's socket changes, the agreement of that one is to be shown. -/
theorem watchesAgree_of_one {s t : State} (hs : s.watchesAgree) (n : Slot) (hother : ∀ m, m ≠ n → t.socket m = s.socket m)
    (hn : (t.socket n).Agrees) : t.watchesAgree := by
  rw [watchesAgree_iff] at hs ⊢
  intro m
  by_cases hm : m = n
  · subst hm
    exact hn
  · rw [hother m hm]
    exact hs m

/-- What each step of a walk through the slots does to its own slot, the walk does to every slot. -/
theorem foldl_sockets {P Q : Slot → Socket → Prop} {g : State → Slot → State}
    (hother : ∀ s n m, m ≠ n → (g s n).socket m = s.socket m) (hown : ∀ s n, P n (s.socket n) → Q n ((g s n).socket n))
    (l : List Slot) (hl : l.Nodup) {s : State} (hs : ∀ n ∈ l, P n (s.socket n)) (hq : ∀ n, n ∉ l → Q n (s.socket n)) (n : Slot) :
    Q n ((l.foldl g s).socket n) := by
  induction l generalizing s with
  | nil => exact hq n List.not_mem_nil
  | cons a l ih =>
    obtain ⟨ha, hnodup⟩ := List.nodup_cons.mp hl
    refine ih hnodup (fun m hm => ?_) fun m hm => ?_
    · rw [hother s a m fun e => ha (e ▸ hm)]
      exact hs m (List.mem_cons_of_mem a hm)
    · by_cases e : m = a
      · subst e
        exact hown s m (hs m List.mem_cons_self)
      · rw [hother s a m e]
        exact hq m fun h => (List.mem_cons.mp h).elim e hm

/-! ### What the operations make of a socket -/

theorem socket_setWatch (s : State) (n : Slot) (w : Watch) : (s.setWatch n w).socket n = { s.socket n with watch := w } := by
  simp only [State.socket, watch_setWatch]
  rfl

theorem socket_setWatch_ne (s : State) {m n : Slot} (h : m ≠ n) (w : Watch) : (s.setWatch n w).socket m = s.socket m := by
  simp only [State.socket, watch_setWatch_ne s h]
  rfl

theorem socket_of_moves {s t : State} (m : Moves s t) {n : Slot} (hw : t.watch n = s.watch n) :
    t.socket n = { s.socket n with state := (t.slot n).state } := by
  rw [State.socket, m.run, m.tables, m.present, hw]
  rfl

theorem leave_slots {s : State} {n : Slot} (h : (s.slot n).state ≠ .empty) :
    (s.leave n).slots = changeAt s.slots n (SlotRecord.emptied ∘ SlotRecord.turned s.tables .empty ∘ SlotRecord.cleared) := by
  rw [State.leave, if_neg h]
  exact (congrArg (changeAt · n SlotRecord.emptied) (unbind_slots s n .empty)).trans (changeAt_changeAt _ _ _ _)

theorem leave_state (s : State) (n : Slot) : ((s.leave n).slot n).state = .empty := by
  by_cases h : (s.slot n).state = .empty
  · rw [State.leave, if_pos h, h]
  · rw [slot_of_changeAt (leave_slots h)]
    rfl

theorem leave_slot_ne (s : State) {m n : Slot} (h : m ≠ n) : (s.leave n).slot m = s.slot m := by
  by_cases he : (s.slot n).state = .empty
  · rw [State.leave, if_pos he]
  · exact slot_of_changeAt_ne (leave_slots he) h

theorem leave_bus (s : State) (n : Slot) : (s.leave n).bus = s.bus := by
  unfold State.leave
  split
  · rfl
  · rw [State.raiseSlot_bus, State.onSlot_bus, unbind_bus]

/-- A slot left by its cartridge is EMPTY (R94, R96). -/
theorem socket_leave (s : State) (n : Slot) : (s.leave n).socket n = { s.socket n with state := .empty } := by
  rw [socket_of_moves (moves_leave s n) (by rw [State.watch, leave_bus]; rfl), leave_state]

theorem socket_leave_ne (s : State) {m n : Slot} (h : m ≠ n) : (s.leave n).socket m = s.socket m := by
  rw [socket_of_moves (moves_leave s n) (by rw [State.watch, leave_bus]; rfl), leave_slot_ne s h]
  rfl

/-- An arrival at an EMPTY slot: the watch is ARRIVING and the slot SETTLING (R74, R92). -/
theorem socket_arrive {s : State} {n : Slot} (h : (s.slot n).state = .empty) :
    (s.arrive n).socket n = { s.socket n with watch := .arriving (some s.tables.insertSettle), state := .settling } := by
  obtain ⟨latched, events, drops, e, _⟩ := arrive_empty h
  have hslots : (s.arrive n).slots = changeAt s.slots n (SlotRecord.turned s.tables .settling) := by rw [e]
  have hwatch : (s.arrive n).watch n = .arriving (some s.tables.insertSettle) := by
    rw [State.watch, arrive_bus]
    exact Vector.getElem_set_self _
  rw [State.socket, hwatch, slot_of_changeAt hslots, e]
  rfl

theorem socket_arrive_ne (s : State) {m n : Slot} (h : m ≠ n) : (s.arrive n).socket m = s.socket m := by
  have hwatch : (s.arrive n).watch m = s.watch m := by
    rw [State.watch, arrive_bus]
    exact Vector.getElem_set_ne n.isLt m.isLt fun e => h (Fin.ext e).symm
  rw [socket_of_moves (moves_arrive s n) hwatch]
  by_cases he : (s.slot n).state = .empty
  · obtain ⟨latched, events, drops, e, _⟩ := arrive_empty he
    have hslots : (s.arrive n).slots = changeAt s.slots n (SlotRecord.turned s.tables .settling) := by rw [e]
    rw [slot_of_changeAt_ne hslots h]
    rfl
  · rw [State.arrive, if_neg he]
    rfl

theorem identify_bus (s : State) (n : Slot) (allowance : Nat) : ∃ q, (s.identify n allowance).bus = { s.bus with queue := q } := by
  unfold State.identify
  obtain ⟨q, h⟩ := busPlace_eq ((s.changeState n .identifying).onSlot n fun r => { r with allowance := allowance, attempts := 0 }) n
    .identify
  refine ⟨q, ?_⟩
  rw [h, State.onBus_bus, State.onSlot_bus, (judges_changeState s n .identifying).bus]

theorem identify_watch (s : State) (n : Slot) (allowance : Nat) (m : Slot) : (s.identify n allowance).watch m = s.watch m := by
  obtain ⟨q, h⟩ := identify_bus s n allowance
  rw [State.watch, h]
  rfl

theorem socket_identify (s : State) (n : Slot) (allowance : Nat) :
    (s.identify n allowance).socket n = { s.socket n with state := .identifying } := by
  rw [socket_of_moves (moves_identify s n allowance) (identify_watch s n allowance n), slot_of_changeAt (identify_slots s n allowance)]
  rfl

theorem socket_identify_ne (s : State) {m n : Slot} (h : m ≠ n) (allowance : Nat) :
    (s.identify n allowance).socket m = s.socket m := by
  rw [socket_of_moves (moves_identify s n allowance) (identify_watch s n allowance m),
    slot_of_changeAt_ne (identify_slots s n allowance) h]
  rfl

/-! ### Agreement -/

theorem agrees_disabled {k : Socket} (hw : k.watch = .disabled) (he : k.enabled = false) (hst : k.state = .empty) : k.Agrees := by
  simp [Socket.Agrees, hw, he, hst, Watch.allows, Watch.reads, Watch.settleTimer, Watch.isSettling]

theorem agrees_quiet {k : Socket} (hw : k.watch = .quiet) (he : k.enabled = true) (hst : k.state = .empty)
    (hp : k.run = .running → k.present = false) : k.Agrees := by
  simpa [Socket.Agrees, hw, he, hst, Watch.allows, Watch.reads, Watch.settleTimer, Watch.isSettling] using hp

theorem agrees_arriving {k : Socket} {settle : Nat} (hr : k.run = .running) (hw : k.watch = .arriving (some settle))
    (he : k.enabled = true) (hst : k.state = .settling) (hp : k.present = true) : k.Agrees := by
  simp [Socket.Agrees, hr, hw, he, hst, hp, Watch.allows, Watch.reads, Watch.settleTimer, Watch.isSettling]

theorem agrees_seated {k : Socket} (hw : k.watch = .seated) (he : k.enabled = true) (hst : k.state ≠ .empty ∧ k.state ≠ .settling)
    (hp : k.run = .running → k.present = true) : k.Agrees := by
  simpa [Socket.Agrees, hw, he, hst, Watch.allows, Watch.reads, Watch.settleTimer, Watch.isSettling] using hp

theorem agrees_leaving {k : Socket} {before : Before} {settle : Nat} (hr : k.run = .running)
    (hw : k.watch = .leaving before (some settle)) (he : k.enabled = true)
    (hst : (Watch.leaving before (some settle)).allows k.state) (hp : k.present = false) : k.Agrees := by
  simpa [Socket.Agrees, hr, hw, he, hp, Watch.reads, Watch.settleTimer, Watch.isSettling] using hst

/-- A watch that is not DISABLED stands where its slot is enabled (R78). -/
theorem enabled_of_agrees {k : Socket} (h : k.Agrees) (hw : k.watch ≠ .disabled) : k.enabled = true := by
  obtain ⟨henabled, _⟩ := h
  exact Bool.eq_true_of_not_eq_false fun he => hw (henabled.mpr he)

/-- A watch that allows one seated state allows every other. -/
theorem allows_of_seated {w : Watch} {st st' : SlotState} (h : w.allows st) (hst : st.isSeated = true) (hst' : st'.isSeated = true) :
    w.allows st' := by
  have hne {st : SlotState} (h : st.isSeated = true) : st ≠ .empty ∧ st ≠ .settling := by
    constructor <;> rintro rfl <;> cases h
  obtain ⟨hempty, hsettling⟩ := hne hst
  cases w with
  | disabled | quiet => exact absurd h hempty
  | arriving _ => exact absurd h hsettling
  | seated => exact hne hst'
  | leaving before _ =>
    cases before with
    | arriving => exact absurd h hsettling
    | seated => exact hne hst'

/-- The units' work between the watches' reports keeps every watch in agreement. -/
theorem Seats.watchesAgree {s t : State} (h : Seats s t) (m : Moves s t) (hs : s.watchesAgree) : t.watchesAgree := by
  rw [watchesAgree_iff] at hs ⊢
  intro n
  obtain ⟨q, hbus⟩ := h.bus
  rw [socket_of_moves m (by rw [State.watch, hbus]; rfl)]
  obtain ⟨henabled, hallows, hreads, htimer⟩ := hs n
  refine ⟨henabled, ?_, hreads, htimer⟩
  rcases h.state n with e | ⟨hst, hst'⟩
  · rw [e]
    exact hallows
  · exact allows_of_seated hallows hst hst'

theorem watchesAgree_of_supply {s t : State} (hs : s.watchesAgree) (h : t.supply = s.supply) : t.watchesAgree := by
  have hsocket (n : Slot) : t.socket n = s.socket n :=
    congrArg (fun v : State.Supply =>
      (⟨v.run, v.sockets[n].enabled, v.present[n], v.bus.watches[n], v.slots[n].state⟩ : Socket)) h
  rw [watchesAgree_iff] at hs ⊢
  exact fun n => hsocket n ▸ hs n

/-- A seating turns the SETTLING slot of an ARRIVING watch to IDENTIFYING (R75, R93). -/
theorem seat_eq {s : State} {n : Slot} (h : (s.slot n).state = .settling) :
    s.seat n = (s.setWatch n .seated).identify n s.tables.aFirst := if_pos h

theorem seat_watchesAgree {s : State} (hs : s.watchesAgree) {n : Slot} {settle : Nat} (hw : s.watch n = .arriving (some settle)) :
    (s.seat n).watchesAgree := by
  have henabled := enabled_of_agrees (k := s.socket n) (hs n) (by rw [State.socket, hw]; nofun)
  obtain ⟨_, hallows, hreads, _⟩ := hs n
  rw [hw] at hallows hreads
  rw [seat_eq hallows]
  refine watchesAgree_of_one hs n (fun m hm => ?_) ?_
  · rw [socket_identify_ne _ hm, socket_setWatch_ne s hm]
  · rw [socket_identify, socket_setWatch]
    exact agrees_seated rfl henabled ⟨nofun, nofun⟩ fun hr => hreads hr true rfl

theorem remove_watchesAgree {s : State} (hs : s.watchesAgree) {n : Slot} {before : Before} {settle : Nat}
    (hw : s.watch n = .leaving before (some settle)) : (s.remove n).watchesAgree := by
  have henabled := enabled_of_agrees (k := s.socket n) (hs n) (by rw [State.socket, hw]; nofun)
  obtain ⟨_, _, hreads, _⟩ := hs n
  rw [hw] at hreads
  refine watchesAgree_of_one hs n (fun m hm => ?_) ?_
  · exact (socket_leave_ne _ hm).trans (socket_setWatch_ne s hm .quiet)
  · have hsocket : (s.remove n).socket n = { s.socket n with watch := .quiet, state := .empty } :=
      (socket_leave _ n).trans (congrArg (fun k : Socket => { k with state := .empty }) (socket_setWatch s n .quiet))
    rw [hsocket]
    exact agrees_quiet rfl henabled rfl fun hr => hreads hr false rfl

end Sys2Proof.Machine
end

section
/-! PROOFS. O16, continued: the loads of the slot configuration table, the arrivals of start-up, the presence lines and reset. -/

namespace Sys2Proof.Machine

/-! ### The slot configuration table -/

/-- A slot that is disabled is left EMPTY, whatever its watch was (R78, R96). -/
theorem socket_disableSlot {s : State} {n : Slot} (h : (s.watch n).allows (s.slot n).state) :
    (s.disableSlot n).socket n = { s.socket n with watch := .disabled, state := .empty } := by
  have hleft : (((s.setWatch n .disabled).purge n).leave n).socket n = { s.socket n with watch := .disabled, state := .empty } :=
    (socket_leave _ n).trans (congrArg (fun k : Socket => { k with state := .empty }) (socket_setWatch s n .disabled))
  have stays (he : (s.slot n).state = .empty) :
      (s.setWatch n .disabled).socket n = { s.socket n with watch := .disabled, state := .empty } := by
    rw [socket_setWatch, ← he]
    rfl
  unfold State.disableSlot
  cases hw : s.watch n with
  | arriving _ | seated | leaving _ _ => exact hleft
  | disabled | quiet =>
    rw [hw] at h
    exact stays h

theorem socket_disableSlot_ne (s : State) {m n : Slot} (h : m ≠ n) : (s.disableSlot n).socket m = s.socket m := by
  have hleft : (((s.setWatch n .disabled).purge n).leave n).socket m = s.socket m :=
    (socket_leave_ne _ h).trans (socket_setWatch_ne s h .disabled)
  unfold State.disableSlot
  split
  · exact hleft
  · exact hleft
  · exact hleft
  · exact socket_setWatch_ne s h .disabled

/-- An EMPTY slot that is enabled is QUIET, or takes its arrival (R78, R96). -/
theorem socket_enableSlot {s : State} {n : Slot} (h : (s.slot n).state = .empty) :
    (s.enableSlot n).socket n =
      if s.present[n] = true then { s.socket n with watch := .arriving (some s.tables.insertSettle), state := .settling }
      else { s.socket n with watch := .quiet } := by
  have he : ((s.setWatch n .quiet).slot n).state = .empty := h
  unfold State.enableSlot
  dsimp only
  split
  · rw [socket_arrive he, socket_setWatch]
    rfl
  · exact socket_setWatch s n .quiet

theorem socket_enableSlot_ne (s : State) {m n : Slot} (h : m ≠ n) : (s.enableSlot n).socket m = s.socket m := by
  unfold State.enableSlot
  dsimp only
  split
  · exact (socket_arrive_ne _ h).trans (socket_setWatch_ne s h .quiet)
  · exact socket_setWatch_ne s h .quiet

theorem socket_socketLoaded_ne (before : Vector SocketConfig 12) (s : State) (n m : Slot) (h : m ≠ n) :
    (State.socketLoaded before s n).socket m = s.socket m := by
  unfold State.socketLoaded
  split
  · exact socket_disableSlot_ne s h
  · exact socket_enableSlot_ne s h
  · rfl

/-- A running part's socket that agreed with its enable before the load agrees with the one loaded after the load's effect. -/
theorem socketLoaded_agrees (before : Vector SocketConfig 12) (s : State) (n : Slot)
    (h : ({ s.socket n with enabled := before[n].enabled } : Socket).Agrees ∧ (s.socket n).run = .running) :
    ((State.socketLoaded before s n).socket n).Agrees := by
  obtain ⟨⟨henabled, hallows, hreads, htimer⟩, hrun⟩ := h
  unfold State.socketLoaded
  cases hb : before[n].enabled <;> cases ha : s.tables.sockets[n].enabled
  case true.false =>
    dsimp only
    rw [socket_disableSlot hallows]
    exact agrees_disabled rfl ha rfl
  case false.true =>
    have hw : s.watch n = .disabled := henabled.mpr hb
    have hempty : (s.watch n).allows (s.slot n).state := hallows
    rw [hw] at hempty
    dsimp only
    rw [socket_enableSlot hempty]
    split
    · exact agrees_arriving hrun rfl ha rfl ‹_›
    · exact agrees_quiet rfl ha hempty fun _ => Bool.eq_false_iff.mpr ‹_›
  all_goals
    refine ⟨henabled.trans ?_, hallows, hreads, htimer⟩
    change before[n].enabled = false ↔ s.tables.sockets[n].enabled = false
    rw [hb, ha]

theorem loads_watchesAgree {s t : State} {first written : Nat} (h : Loads s first written t) (hr : s.run = .running)
    (hs : s.watchesAgree) : t.watchesAgree := by
  cases h with
  | staged _ | keys _ => exact hs
  | classes _ _ =>
    exact (Seats.foldl (seats_classLoaded first written) allSlots _).watchesAgree
      (Moves.foldl (moves_classLoaded first written) allSlots _) hs
  | settings v => exact (seats_settingsLoaded _).watchesAgree (moves_settingsLoaded _) hs
  | sockets f =>
    rw [watchesAgree_iff] at hs ⊢
    exact foldl_sockets (P := fun n k => ({ k with enabled := s.tables.sockets[n].enabled } : Socket).Agrees ∧ k.run = .running)
      (Q := fun _ => Socket.Agrees) (socket_socketLoaded_ne _) (socketLoaded_agrees _) allSlots (List.nodup_finRange 12)
      (fun n _ => ⟨hs n, hr⟩) fun n hn => absurd (List.mem_finRange n) hn

/-! ### Courses -/

theorem SupplyWork.watchesAgree {s t : State} (w : SupplyWork s t) (hr : s.run = .running) (hs : s.watchesAgree) :
    t.watchesAgree := by
  cases w with
  | aside h => exact watchesAgree_of_supply hs h
  | handOver d => exact (seats_handOver s d).watchesAgree (moves_handOver s d) hs
  | deliver f outcome => exact (seats_deliver s f outcome).watchesAgree (moves_deliver s f outcome) hs
  | askChallenge n => exact (seats_askChallenge s n).watchesAgree (moves_askChallenge s n) hs
  | askCommit cause n => exact (seats_askCommit s cause n).watchesAgree (moves_askCommit s cause n) hs
  | seat n settle h => exact seat_watchesAgree hs h
  | remove n before settle h => exact remove_watchesAgree hs h
  | endHoldoff n h => exact (seats_endHoldoff h).watchesAgree (moves_endHoldoff s n) hs
  | loads first written h => exact loads_watchesAgree h hr hs

theorem considerQueue_socket (s : State) (n : Slot) : s.considerQueue.socket n = s.socket n := by
  simp [State.socket, State.watch, State.slot]

/-- The course of a running part keeps every watch in agreement. -/
theorem Course.watchesAgree {s : State} {b c : Bool} {t : State} (h : Course s b c t) (hr : s.run = .running)
    (hs : s.watchesAgree) : t.watchesAgree ∧ t.run = .running := by
  induction h with
  | start => exact ⟨hs, hr⟩
  | aside _ e ih =>
    obtain ⟨ht, hrun⟩ := ih
    exact ⟨watchesAgree_of_supply ht e, (congrArg State.Supply.run e).trans hrun⟩
  | work _ w ih =>
    obtain ⟨ht, hrun⟩ := ih
    obtain ⟨u, m, h⟩ := w.moves
    exact ⟨w.watchesAgree hrun ht, m.run.trans ((congrArg Prod.fst h).trans hrun)⟩
  | @consider _ t _ ih =>
    obtain ⟨ht, hrun⟩ := ih
    rw [watchesAgree_iff] at ht ⊢
    exact ⟨fun n => considerQueue_socket t n ▸ ht n, (State.considerQueue_run t).trans hrun⟩

/-! ### Start-up -/

/-- A socket as start-up leaves it before any arrival (R73). -/
def Socket.Started (k : Socket) : Prop :=
  k.run = .running ∧ k.watch = (if k.enabled then .quiet else .disabled) ∧ k.state = .empty

theorem loaded_started {s t : State} {straps : BitVec 4} (h : t.supply = (s.loaded straps).supply) (n : Slot) :
    (t.socket n).Started := by
  have hsocket : t.socket n = (s.loaded straps).socket n :=
    congrArg (fun v : State.Supply =>
      (⟨v.run, v.sockets[n].enabled, v.present[n], v.bus.watches[n], v.slots[n].state⟩ : Socket)) h
  rw [hsocket]
  refine ⟨rfl, ?_, ?_⟩
  · exact Vector.getElem_map _ _
  · exact congrArg SlotRecord.state (Vector.getElem_replicate _)

theorem socket_startArrival_ne (s : State) (n m : Slot) (h : m ≠ n) : (s.startArrival n).socket m = s.socket m := by
  unfold State.startArrival
  split
  · split
    · exact socket_arrive_ne s h
    · rfl
  · rfl

theorem startArrival_agrees (s : State) (n : Slot) (h : (s.socket n).Started) : ((s.startArrival n).socket n).Agrees := by
  obtain ⟨hrun, hwatch, hempty⟩ := h
  have hwatch : s.watch n = if s.tables.sockets[n].enabled then .quiet else .disabled := hwatch
  unfold State.startArrival
  cases he : s.tables.sockets[n].enabled with
  | false =>
    rw [he, if_neg nofun] at hwatch
    rw [hwatch]
    exact agrees_disabled hwatch he hempty
  | true =>
    rw [he, if_pos rfl] at hwatch
    rw [hwatch]
    dsimp only
    split
    · rw [socket_arrive hempty]
      exact agrees_arriving hrun rfl he rfl ‹_›
    · exact agrees_quiet hwatch he hempty fun _ => Bool.eq_false_iff.mpr ‹_›

/-! ### The presence lines -/

theorem socket_setLine (s : State) (n : Slot) (reads : Bool) : (s.setLine n reads).socket n = { s.socket n with present := reads } := by
  have hpresent : (s.setLine n reads).present[n] = reads := by
    simp only [State.setLine_present, changeAt, Fin.getElem_fin, Vector.getElem_set_self]
  rw [State.socket, hpresent]
  rfl

theorem socket_setLine_ne (s : State) {m n : Slot} (h : m ≠ n) (reads : Bool) : (s.setLine n reads).socket m = s.socket m := by
  have hpresent : (s.setLine n reads).present[m] = s.present[m] := by
    simp only [State.setLine_present, changeAt, Fin.getElem_fin]
    exact Vector.getElem_set_ne n.isLt m.isLt fun e => h (Fin.ext e).symm
  rw [State.socket, hpresent]
  rfl

/-- Until start-up is complete a line moves unread (R181). -/
theorem setLine_watchesAgree {s : State} (hs : s.watchesAgree) (hr : s.run ≠ .running) (n : Slot) (reads : Bool) :
    (s.setLine n reads).watchesAgree := by
  obtain ⟨henabled, hallows, _, htimer⟩ := hs n
  refine watchesAgree_of_one hs n (fun m hm => socket_setLine_ne s hm reads) ?_
  rw [socket_setLine]
  exact ⟨henabled, hallows, fun hrun => absurd hrun hr, htimer⟩

theorem socket_line_setWatch (s : State) (n : Slot) (reads : Bool) (w : Watch) :
    ((s.setLine n reads).setWatch n w).socket n = { s.socket n with present := reads, watch := w } := by
  rw [socket_setWatch, socket_setLine]

theorem linePresent_watchesAgree {s : State} (hs : s.watchesAgree) (hr : s.run = .running) {n : Slot} (h : s.present[n] = false) :
    ((s.setLine n true).linePresent n).watchesAgree := by
  have henabled := enabled_of_agrees (k := s.socket n) (hs n)
  obtain ⟨hdisabled, hallows, hreads, _⟩ := hs n
  have hwas (b : Bool) (hb : (s.watch n).reads = some b) : b = false := (hreads hr b hb).symm.trans h
  have setting (w : Watch) (m : Slot) (hm : m ≠ n) : ((s.setLine n true).setWatch n w).socket m = s.socket m :=
    (socket_setWatch_ne _ hm w).trans (socket_setLine_ne s hm true)
  unfold State.linePresent
  rw [show (s.setLine n true).watch n = s.watch n from rfl]
  cases hw : s.watch n with
  | disabled =>
    rw [hw] at hallows
    refine watchesAgree_of_one hs n (fun m hm => socket_setLine_ne s hm true) ?_
    rw [socket_setLine]
    exact agrees_disabled hw (hdisabled.mp hw) hallows
  | quiet =>
    rw [hw] at hallows
    dsimp only
    refine watchesAgree_of_one hs n (fun m hm => (socket_arrive_ne _ hm).trans (socket_setLine_ne s hm true)) ?_
    rw [socket_arrive (s := s.setLine n true) hallows, socket_setLine]
    exact agrees_arriving hr rfl (henabled (by rw [State.socket, hw]; nofun)) rfl rfl
  | arriving _ | seated => exact nomatch hwas true (by rw [hw]; rfl)
  | leaving before _ =>
    rw [hw] at hallows
    have he := henabled (by rw [State.socket, hw]; nofun)
    cases before with
    | arriving =>
      refine watchesAgree_of_one hs n (setting _) ?_
      rw [socket_line_setWatch]
      exact agrees_arriving hr rfl he hallows rfl
    | seated =>
      refine watchesAgree_of_one hs n (setting _) ?_
      rw [socket_line_setWatch]
      exact agrees_seated rfl he hallows fun _ => rfl

theorem lineAbsent_watchesAgree {s : State} (hs : s.watchesAgree) (hr : s.run = .running) {n : Slot} (h : s.present[n] = true) :
    ((s.setLine n false).lineAbsent n).watchesAgree := by
  have henabled := enabled_of_agrees (k := s.socket n) (hs n)
  obtain ⟨hdisabled, hallows, hreads, _⟩ := hs n
  have hwas (b : Bool) (hb : (s.watch n).reads = some b) : b = true := (hreads hr b hb).symm.trans h
  have setting (w : Watch) (m : Slot) (hm : m ≠ n) : ((s.setLine n false).setWatch n w).socket m = s.socket m :=
    (socket_setWatch_ne _ hm w).trans (socket_setLine_ne s hm false)
  unfold State.lineAbsent
  rw [show (s.setLine n false).watch n = s.watch n from rfl]
  cases hw : s.watch n with
  | disabled =>
    rw [hw] at hallows
    refine watchesAgree_of_one hs n (fun m hm => socket_setLine_ne s hm false) ?_
    rw [socket_setLine]
    exact agrees_disabled hw (hdisabled.mp hw) hallows
  | quiet | leaving _ _ => exact nomatch hwas false (by rw [hw]; rfl)
  | arriving _ =>
    rw [hw] at hallows
    refine watchesAgree_of_one hs n (setting _) ?_
    rw [socket_line_setWatch]
    exact agrees_leaving hr rfl (henabled (by rw [State.socket, hw]; nofun)) hallows rfl
  | seated =>
    rw [hw] at hallows
    refine watchesAgree_of_one hs n (setting _) ?_
    rw [socket_line_setWatch]
    exact agrees_leaving hr rfl (henabled (by rw [State.socket, hw]; nofun)) hallows rfl

/-! ### Every step -/

/-- A reset stops the settle timers and leaves every watch in its state (R181; log entry 14). -/
theorem assertReset_watchesAgree {s : State} (hs : s.watchesAgree) (cause : ResetCause) : (s.assertReset cause).watchesAgree := by
  intro n
  obtain ⟨henabled, hallows, _, _⟩ := hs n
  have hwatch : (s.assertReset cause).watch n = (s.watch n).stopped := Vector.getElem_map _ _
  have hslot : (s.assertReset cause).slot n = { s.slot n with holdoff := none } := Vector.getElem_map _ _
  rw [hwatch, hslot]
  refine ⟨Iff.trans ?_ henabled, ?_, nofun, ?_⟩
  · cases s.watch n <;> simp [Watch.stopped]
  · revert hallows
    cases s.watch n with
    | leaving before _ => cases before <;> exact id
    | _ => exact id
  · cases s.watch n <;> rfl

theorem SupplyEvent.watchesAgree {s : State} {c : Instr} {b : Bool} {t : State} (h : SupplyEvent s c b t) (hs : s.watchesAgree) :
    t.watchesAgree := by
  cases h with
  | reset cause => exact assertReset_watchesAgree hs cause
  | release hr =>
    intro n
    obtain ⟨henabled, hallows, _, htimer⟩ := hs n
    rw [hr] at htimer
    exact ⟨henabled, hallows, nofun, htimer⟩
  | started _ _ hl =>
    rw [watchesAgree_iff]
    exact foldl_sockets (P := fun _ => Socket.Started) (Q := fun _ => Socket.Agrees) socket_startArrival_ne startArrival_agrees allSlots
      (List.nodup_finRange 12) (fun n _ => loaded_started hl n) fun n hn => absurd (List.mem_finRange n) hn
  | line n reads hr => exact setLine_watchesAgree hs hr n reads
  | present n hr hp => exact linePresent_watchesAgree hs hr hp
  | absent n hr hp => exact lineAbsent_watchesAgree hs hr hp
  | _ => exact hs

/-- Settles O16: every command's event keeps each watch in agreement, and so does the course that follows. -/
theorem watchesAndSlotsStayInAgreement : Obligations.WatchesAndSlotsStayInAgreement := by
  intro s t hs h
  unfold step at h
  split at h
  · obtain ⟨b, u, he, hrest⟩ := exec_runs _ _ t h
    have hu := he.watchesAgree hs
    rcases hrest with ⟨_, rfl⟩ | ⟨hr, hcourse⟩
    · exact hu
    · exact (hcourse.watchesAgree hr hu).1
  · cases h
    exact hs

end Sys2Proof.Machine
end

section
/-! PROOFS. O46: the order in which requests of the supply bus are taken (R81). O47: what TRANSACTION_BEGIN begins (R72, R79, R82, R102,
R121). -/

namespace Sys2Proof.Machine

/-! ### The order of requests -/

/-- The place of a kind in the order in which requests are taken (R81). -/
def BusKind.rank : BusKind → Nat
  | .debit => 0
  | .challenge => 1
  | .identify => 2

theorem rank_eq_zero (k : BusKind) : k.rank = 0 ↔ k = .debit := by cases k <;> simp [BusKind.rank]

theorem rank_le_one (k : BusKind) : k.rank ≤ 1 ↔ k = .debit ∨ k = .challenge := by cases k <;> simp [BusKind.rank]

theorem rank_le_two (k : BusKind) : k.rank ≤ 2 := by cases k <;> simp [BusKind.rank]

/-- The request stands behind none of its kind or an earlier one, and before none of an earlier one. -/
def StandsFirst (q : List BusRequest) (r : BusRequest) : Prop :=
  ∃ older newer, q = older ++ r :: newer ∧ (∀ x ∈ older, r.kind.rank < x.kind.rank) ∧ ∀ x ∈ newer, r.kind.rank ≤ x.kind.rank

theorem find_kind_eq_none {q : List BusRequest} {k : BusKind} : q.find? (fun r => r.kind == k) = none ↔ ∀ x ∈ q, x.kind ≠ k := by
  simp [List.find?_eq_none]

theorem find_kind_eq_some {q : List BusRequest} {k : BusKind} {r : BusRequest} :
    q.find? (fun r => r.kind == k) = some r
      ↔ r.kind = k ∧ ∃ older newer, q = older ++ r :: newer ∧ ∀ x ∈ older, x.kind ≠ k := by
  simp [List.find?_eq_some_iff_append]

theorem standsFirst_of_nextRequest {q : List BusRequest} {r : BusRequest} (h : nextRequest q = some r) : StandsFirst q r := by
  unfold nextRequest at h
  split at h
  · rename_i hd
    obtain rfl := Option.some.inj h
    obtain ⟨hk, older, newer, rfl, hold⟩ := find_kind_eq_some.mp hd
    refine ⟨older, newer, rfl, fun x hx => ?_, fun x _ => ?_⟩ <;> rw [hk]
    · exact Nat.pos_of_ne_zero fun h0 => hold x hx ((rank_eq_zero _).mp h0)
    · exact Nat.zero_le _
  · rename_i hd
    have hdebit := find_kind_eq_none.mp hd
    split at h
    · rename_i hc
      obtain rfl := Option.some.inj h
      obtain ⟨hk, older, newer, rfl, hold⟩ := find_kind_eq_some.mp hc
      refine ⟨older, newer, rfl, fun x hx => ?_, fun x hx => ?_⟩ <;> rw [hk]
      · refine Nat.lt_of_not_le fun hle => ?_
        rcases (rank_le_one _).mp hle with e | e
        · exact hdebit x (List.mem_append_left _ hx) e
        · exact hold x hx e
      · exact Nat.pos_of_ne_zero fun h0 =>
          hdebit x (List.mem_append_right _ (List.mem_cons_of_mem _ hx)) ((rank_eq_zero _).mp h0)
    · rename_i hc
      have hchallenge := find_kind_eq_none.mp hc
      obtain ⟨newer, rfl⟩ := List.head?_eq_some_iff.mp h
      refine ⟨[], newer, rfl, fun x hx => absurd hx List.not_mem_nil, fun x hx => ?_⟩
      refine (rank_le_two _).trans (Nat.lt_of_not_le fun hle => ?_)
      rcases (rank_le_one _).mp hle with e | e
      · exact hdebit x (List.mem_cons_of_mem _ hx) e
      · exact hchallenge x (List.mem_cons_of_mem _ hx) e

theorem nextRequest_of_standsFirst {q : List BusRequest} {r : BusRequest} (h : StandsFirst q r) : nextRequest q = some r := by
  obtain ⟨older, newer, rfl, hold, hnew⟩ := h
  have hnone {k : BusKind} (hk : k.rank < r.kind.rank) : (older ++ r :: newer).find? (fun r => r.kind == k) = none := by
    refine find_kind_eq_none.mpr fun x hx e => ?_
    rw [← e] at hk
    rcases List.mem_append.mp hx with hx | hx
    · exact absurd (hold x hx) (by omega)
    · rcases List.mem_cons.mp hx with rfl | hx
      · exact absurd hk (lt_irrefl _)
      · exact absurd (hnew x hx) (by omega)
  have hsome : (older ++ r :: newer).find? (fun x => x.kind == r.kind) = some r :=
    find_kind_eq_some.mpr ⟨rfl, older, newer, rfl, fun x hx e => absurd (hold x hx) (by rw [e]; exact lt_irrefl _)⟩
  unfold nextRequest
  cases hk : r.kind with
  | debit =>
    rw [hk] at hsome
    rw [hsome]
  | challenge =>
    rw [hk] at hsome
    rw [hnone (k := .debit) (by rw [hk]; decide), hsome]
  | identify =>
    have hempty : older = [] := List.eq_nil_iff_forall_not_mem.mpr fun x hx => by
      have hlt := hold x hx
      rw [hk] at hlt
      exact absurd (rank_le_two x.kind) (Nat.not_le.mpr hlt)
    rw [hnone (k := .debit) (by rw [hk]; decide), hnone (k := .challenge) (by rw [hk]; decide), hempty]
    rfl

/-- Settles O46: a search by kind finds the first request of the least rank, and nothing else stands first. -/
theorem requestsAreTakenByKindThenAge : Obligations.RequestsAreTakenByKindThenAge :=
  fun _ _ => ⟨standsFirst_of_nextRequest, nextRequest_of_standsFirst⟩

/-! ### The beginning of a transaction -/

/-- The state without a request of its queue. -/
def State.without (s : State) (r : BusRequest) : State := s.onBus fun b => { b with queue := b.queue.erase r }

theorem takeOne_of_next {s : State} {r : BusRequest} (hfree : s.bus.isFree = true) (hr : nextRequest s.bus.queue = some r) :
    s.takeOne = (s.without r).beginTransaction r := by
  rw [State.takeOne, if_pos hfree, hr]
  rfl

/-- With the line free, the consideration of the queue takes the request that comes next, and goes on from there (R81, R82). -/
theorem considerQueue_of_next {s : State} {r : BusRequest} (hfree : s.bus.isFree = true) (hr : nextRequest s.bus.queue = some r) :
    s.considerQueue = ((s.without r).beginTransaction r).considerQueue := by
  obtain ⟨b, x, c, he, _, hq⟩ := beginTransaction_eq (s.without r) r
  have hlength : ((s.without r).beginTransaction r).bus.queue.length + 1 = s.bus.queue.length := by
    rw [he, hq]
    exact List.length_erase_add_one (nextRequest_mem hr)
  rw [State.considerQueue, ← hlength, State.takeRequests, takeOne_of_next hfree hr]
  rfl

theorem finish_of_next {s : State} {r : BusRequest} (hfree : s.bus.isFree = true) (hr : nextRequest s.bus.queue = some r) :
    s.finish = ((s.without r).beginTransaction r).finish := by
  rw [State.finish, considerQueue_of_next hfree hr]
  rfl

/-- A transaction that has begun leaves nothing to take, and outside stage 1 of parking the command's end is `sendNext`. -/
theorem finish_putInFlight {s : State} (h : s.decoder.park ≠ .parking .commits) (n : Slot) (k : BusKind) (x : Word) (d : Nat) :
    (s.putInFlight n k x d).finish = (s.putInFlight n k x d).sendNext :=
  finish_eq_sendNext nofun fun hp => h hp.1

theorem recordFlight_decoder (s : State) (n : Slot) (d : Nat) : (s.recordFlight n d).decoder = s.decoder := by
  obtain ⟨c, h⟩ := recordFlight_eq s n d
  rw [h]

/-- Settles O47: the request taken next begins by its kind, or is a DEBIT of amount 0 and dropped. -/
theorem transactionBeginsByItsKind : Obligations.TransactionBeginsByItsKind := by
  intro n k s hr hidle hnone hpark hnext begun address nonce
  have hfree : s.bus.isFree = true := (isFree_iff _).mpr ⟨hidle, hnone⟩
  have hexec : exec .transactionBegin s = .next ((s.without ⟨n, k⟩).beginTransaction ⟨n, k⟩).finish := by
    refine congrArg Host.Outcome.next ((whenRunning_running hr _).trans ((if_pos ⟨hfree, ?_⟩).trans (finish_of_next hfree hnext)))
    exact List.ne_nil_of_mem (nextRequest_mem hnext)
  rw [hexec]
  congr 1
  cases k with
  | identify => exact finish_putInFlight (s := s.without _) hpark _ _ _ _
  | challenge => exact finish_putInFlight (s := (s.without _).advanceNonce) hpark _ _ _ _
  | debit =>
    by_cases hd : (s.without ⟨n, .debit⟩).debitAmount n = 0
    · exact (congrArg State.finish (if_pos hd)).trans (if_pos hd).symm
    · refine (congrArg State.finish (if_neg hd)).trans (Eq.trans ?_ (if_neg hd).symm)
      refine (finish_putInFlight ?_ _ _ _ _).trans (congrArg State.sendNext ?_)
      · rw [recordFlight_decoder]
        exact hpark
      · have hslot : (s.without ⟨n, .debit⟩).advanceNonce.slot n = s.slot n := rfl
        unfold State.recordFlight
        rw [hslot]
        cases (s.slot n).binding <;> rfl

end Sys2Proof.Machine
end

section
/-! PROOFS. O48: the CRC-8, the ends of transactions, and the fault (R79, R82 to R88). -/

namespace Sys2Proof.Machine

/-! ### The CRC-8 -/

theorem crc8Byte_eq_foldl (c b : Byte) :
    crc8Byte c b = (List.range 8).foldl (fun c _ => if c.getLsbD 7 then (c <<< 1) ^^^ 0x07#8 else c <<< 1) (c ^^^ b) := by
  have hbit : crc8Bit = fun c : Byte => if c.getLsbD 7 then (c <<< 1) ^^^ 0x07#8 else c <<< 1 := by
    funext c
    rw [crc8Bit, BitVec.msb_eq_getLsbD_last]
  rw [crc8Byte, hbit]
  rfl

theorem crc8_append (bs : List Byte) (b : Byte) : crc8 (bs ++ [b]) = crc8Byte (crc8 bs) b := List.foldl_append

/-! ### The commands of the line -/

section
variable {s : State} (hr : s.run = .running)
include hr

theorem exec_commandSent {f : Flight} (hf : s.bus.flight = some f) (hs : f.stage = .sending) :
    exec .commandSent s = .next (s.setStage .awaiting) := by
  refine congrArg Host.Outcome.next ((whenRunning_running hr _).trans ?_)
  simp only [hf, hs, if_true]

theorem exec_supplyReply {f : Flight} (hf : s.bus.flight = some f) (hs : f.stage = .awaiting) (bytes : List Byte) :
    exec (.supplyReply bytes) s = .next
      (if f.kind.replyLength ≤ bytes.length then (s.endTransaction f (replyOutcome (bytes.take f.kind.replyLength))).finish
        else s) := by
  refine congrArg Host.Outcome.next ((whenRunning_running hr _).trans ?_)
  rw [awaited_iff.mpr ⟨hf, hs⟩]

theorem exec_responseTimeout {f : Flight} (hf : s.bus.flight = some f) (hs : f.stage = .awaiting) :
    exec .responseTimeout s = .next (s.endTransaction f .timeout).finish := by
  refine congrArg Host.Outcome.next ((whenRunning_running hr _).trans ?_)
  rw [awaited_iff.mpr ⟨hf, hs⟩]

theorem exec_busStuck (hl : s.busLow = true) (ht : s.bus.lowTiming = true) (hf : s.bus.status ≠ .fault) :
    exec .busStuck s = .next s.stick.endStage1.sendNext :=
  congrArg Host.Outcome.next ((whenRunning_running hr _).trans (if_pos ⟨hl, ht, hf⟩))

theorem exec_faultEnd (hf : s.bus.status = .fault) (ht : s.bus.releaseTimer = true) :
    exec .faultEnd s = .next (s.onBus Bus.freed).finish :=
  congrArg Host.Outcome.next ((whenRunning_running hr _).trans (if_pos ⟨hf, ht⟩))

theorem exec_busLineReleased (hl : s.busLow = true) :
    exec .busLineReleased s = .next (({ s with busLow := false } : State).onBus Bus.released) :=
  congrArg Host.Outcome.next ((if_pos hl).trans (whenRunning_running (s := { s with busLow := false }) hr _))

theorem exec_busLinePulledLow (hl : s.busLow = false) :
    exec .busLinePulledLow s = .next (({ s with busLow := true } : State).onBus Bus.pulledLow) :=
  congrArg Host.Outcome.next
    ((if_neg (Bool.eq_false_iff.mp hl)).trans (whenRunning_running (s := { s with busLow := true }) hr _))

end

/-- The bytes of a reply: 13 to an IDENTIFY, 9 to any other (R83). -/
theorem replyLength_eq (k : BusKind) : k.replyLength = if k = .identify then 13 else 9 := by cases k <;> rfl

/-- Settles O48: the CRC-8 byte by byte, the delivery by kind, and each command of the line from its meaning. -/
theorem transactionsEndAndFaultsPass : Obligations.TransactionsEndAndFaultsPass := by
  refine ⟨⟨rfl, fun bs b => ?_, by decide +kernel⟩, fun s f outcome => ?_, fun s hr => ⟨fun f hf hs => ?_, fun f bytes hf hs hl => ?_,
    fun f bytes hf hs hl => ?_, fun f hf hs => exec_responseTimeout hr hf hs, fun hl ht hf => ?_, exec_faultEnd hr,
    exec_busLineReleased hr, exec_busLinePulledLow hr⟩⟩
  · rw [crc8_append, crc8Byte_eq_foldl]
  · unfold State.deliver
    cases f.kind <;> rfl
  · rw [exec_commandSent hr hf hs, State.setStage, State.onBus, hf]
    rfl
  · rw [← replyLength_eq] at hl ⊢
    rw [exec_supplyReply hr hf hs, if_pos hl]
    rfl
  · rw [← replyLength_eq] at hl
    rw [exec_supplyReply hr hf hs, if_neg (Nat.not_le.mpr hl)]
  · rw [exec_busStuck hr hl ht hf, State.stick]
    cases s.bus.flight <;> rfl

end Sys2Proof.Machine
end

section
/-! PROOFS. O44: SEATING and HOLDOFF_EXPIRY ask for an identity (R75, R80, R93, R110). -/

namespace Sys2Proof.Machine

/-! ### A request that is queued or begun -/

/-- A request of the supply bus is queued, or its transaction is in flight. -/
def Bus.pursues (b : Bus) (n : Slot) (k : BusKind) : Prop :=
  ⟨n, k⟩ ∈ b.queue ∨ ∃ f, b.flight = some f ∧ f.slot = n ∧ f.kind = k

theorem putInFlight_pursues (s : State) (n : Slot) (k : BusKind) (x : Word) (d : Nat) : (s.putInFlight n k x d).bus.pursues n k :=
  .inr ⟨_, rfl, rfl, rfl⟩

/-- An IDENTIFY that is queued stays so when another request is taken, and begins when it is taken itself (R82). -/
theorem takeOne_pursues {s : State} {n : Slot} (h : s.bus.pursues n .identify) : s.takeOne.bus.pursues n .identify := by
  rcases takeOne_cases s with e | ⟨r, hfree, hr, _⟩
  · rwa [e]
  · rw [takeOne_of_next hfree hr]
    obtain ⟨_, hnone⟩ := (isFree_iff _).mp hfree
    have hqueued : ⟨n, .identify⟩ ∈ s.bus.queue := h.resolve_right fun ⟨f, hf, _⟩ => by
      rw [hnone] at hf
      cases hf
    by_cases hrn : r = ⟨n, .identify⟩
    · rw [hrn]
      exact putInFlight_pursues (s.without ⟨n, .identify⟩) n .identify 0#32 0
    · obtain ⟨b, x, c, he, _, hq⟩ := beginTransaction_eq (s.without r) r
      rw [he]
      refine .inl ?_
      change _ ∈ b.queue
      rw [hq]
      exact (List.mem_erase_of_ne (Ne.symm hrn)).mpr hqueued

theorem finish_pursues {s : State} {n : Slot} (h : s.bus.pursues n .identify) : s.finish.bus.pursues n .identify := by
  rw [State.finish, State.sendNext_bus, State.endStage1_bus]
  exact considerQueue_keeps (p := fun t => t.bus.pursues n .identify) (fun _ => takeOne_pursues) s h

/-! ### The start of an identification -/

theorem busPlace_pursues (s : State) (n : Slot) (k : BusKind) : (s.busPlace n k).bus.pursues n k := by
  refine .inl ?_
  unfold State.busPlace
  split
  · assumption
  · exact List.mem_append_right _ (List.mem_singleton_self _)

/-- The record of a slot that was neither GENUINE nor SUSPECT (R93, R110). -/
theorem identified_eq {r : SlotRecord} (h : r.state.isProven = false) (t : Tables) (allowance : Nat) :
    r.identified t allowance = { r with state := .identifying, allowance := allowance, attempts := 0, band := .none } := by
  have hidentifying : SlotState.identifying.isProven = false := rfl
  simp [SlotRecord.identified, SlotRecord.turned, SlotRecord.banded, currentBand, SlotRecord.estimate, hidentifying, h]

/-- A slot that starts to identify its cartridge touches its record, latched actions, events and the queue (R37, R80, R93, R110). -/
theorem identify_frame (s : State) (n : Slot) (allowance : Nat) :
    ∃ latched events q, s.identify n allowance =
        { s with
          slots := changeAt s.slots n (SlotRecord.identified s.tables allowance)
          swath := { s.swath with latched := latched }
          events := events
          bus := { s.bus with queue := q } } := by
  obtain ⟨slots, latched, events, hj, _⟩ := judges_changeState s n .identifying
  obtain ⟨q, hq⟩ := busPlace_eq ((s.changeState n .identifying).onSlot n fun r => { r with allowance := allowance, attempts := 0 }) n
    .identify
  refine ⟨latched, events, q, ?_⟩
  rw [← identify_slots, State.identify, hq, hj]
  rfl

/-- What O44 says of a command that ends with the start of an identification. -/
structure Identifies (s : State) (n : Slot) (allowance : Nat) (t : State) : Prop where
  slot : t.slot n = { s.slot n with state := .identifying, allowance := allowance, attempts := 0, band := .none }
  others : ∀ m, m ≠ n → t.slot m = s.slot m
  asked : t.bus.pursues n .identify
  watches : t.bus.watches = s.bus.watches
  frame : t.present = s.present ∧ t.residue = s.residue ∧ t.heads = s.heads ∧ t.tables = s.tables
    ∧ t.swath.taken = s.swath.taken ∧ t.swath.drops = s.swath.drops

theorem identify_finish {s : State} {n : Slot} (h : (s.slot n).state.isProven = false) (allowance : Nat) :
    Identifies s n allowance (s.identify n allowance).finish := by
  have hslots : (s.identify n allowance).finish.slots = changeAt s.slots n (SlotRecord.identified s.tables allowance) :=
    (State.finish_slots _).trans (identify_slots s n allowance)
  obtain ⟨latched, events, q, he⟩ := identify_frame s n allowance
  refine ⟨?_, fun m hm => slot_of_changeAt_ne hslots hm, finish_pursues (busPlace_pursues _ n .identify), ?_, ?_⟩
  · rw [slot_of_changeAt hslots, identified_eq h]
  · rw [State.finish_watches, he]
  · simp [he]

/-- Settles O44: each command starts the identification and ends, which leaves the IDENTIFY queued or begun. -/
theorem seatingAndHoldoffExpiryAskForAnIdentity : Obligations.SeatingAndHoldoffExpiryAskForAnIdentity := by
  constructor
  · intro n s settle hr hw hstate
    obtain ⟨hslot, hothers, hasked, hwatches, hframe⟩ := identify_finish (s := s.setWatch n .seated) (n := n)
      (by rw [show ((s.setWatch n .seated).slot n).state = .settling from hstate]; rfl) s.tables.aFirst
    have hwatch (m : Slot) : (((s.setWatch n .seated).identify n s.tables.aFirst).finish).watch m = (s.setWatch n .seated).watch m := by
      rw [State.watch, hwatches]
      rfl
    refine ⟨_, ?_, (hwatch n).trans (watch_setWatch s n .seated), fun m hm => (hwatch m).trans (watch_setWatch_ne s hm .seated),
      hslot, hothers, hasked, hframe⟩
    refine congrArg Host.Outcome.next ((whenRunning_running hr _).trans ?_)
    rw [hw, seat_eq hstate]
  · intro n s hr hstate htimer
    have hslot_n : (s.onSlot n fun r => { r with holdoff := none }).slot n = { s.slot n with holdoff := none } := slot_onSlot s n _
    obtain ⟨hslot, hothers, hasked, hwatches, hframe⟩ := identify_finish
      (s := s.onSlot n fun r => { r with holdoff := none }) (n := n) (by rw [hslot_n, hstate]; rfl)
      (if (s.slot n).proven then s.tables.aRun else s.tables.aFirst)
    refine ⟨_, congrArg Host.Outcome.next ((whenRunning_running hr _).trans (if_pos ⟨hstate, htimer⟩)), ?_,
      fun m hm => (hothers m hm).trans (slot_onSlot_ne s hm _), hasked, hwatches, hframe⟩
    refine hslot.trans ?_
    rw [hslot_n]
    rfl

end Sys2Proof.Machine
end

section
/-! PROOFS. O49: the tag function and the words of a CHALLENGE and a DEBIT (R103). -/

namespace Sys2Proof.Machine

/-- Settles O49: the rounds written out, the check value of the rule evaluated, and the words by the tags' definitions. -/
theorem tagFollowsItsFiveRounds : Obligations.TagFollowsItsFiveRounds :=
  ⟨fun _ _ _ _ _ => rfl, by decide, fun _ _ _ _ => rfl, fun _ _ _ _ _ _ => rfl⟩

end Sys2Proof.Machine
end

section
/-! PROOFS. O50: an identification binds the first matching class, or rejects (R97 to R101, R135 to R140, R148, R151). A binding puts the
cartridge's entry first in the list, so each check at binding is a change of the first entry. -/

namespace Sys2Proof.Machine

/-! ### Events that stay pending -/

theorem raise_holds_mono {u : EventUnit} {k : EventKind} {i : Nat} (h : u.holds k i = true) (k' : EventKind) (i' : Nat) (d : Word) :
    (u.raise k' i' d).holds k i = true := by
  unfold EventUnit.raise
  split
  · split
    · exact h
    · rw [holds_iff] at h ⊢
      rw [announce_pending, List.map_append]
      exact List.mem_append_left _ h
  · exact h

/-- No supply block takes an event out of the pending set (R169). -/
theorem Move.holds {s t : State} (m : Move s t) {k : EventKind} {i : Nat} (h : s.events.holds k i = true) :
    t.events.holds k i = true := by
  cases m with
  | raise k' i' d _ => exact raise_holds_mono h k' i' d
  | place n k => obtain ⟨q, e⟩ := busPlace_eq s n k; rw [e]; exact h
  | unbind n => obtain ⟨f, e⟩ := writeAccount_eq s n; rw [e]; exact h
  | _ => exact h

theorem Moves.holds {s t : State} (h : Moves s t) {k : EventKind} {i : Nat} (hs : s.events.holds k i = true) :
    t.events.holds k i = true :=
  h.keeps (p := fun s => s.events.holds k i = true) (fun _ _ m => m.holds) hs

/-- No supply block enables or disables an event kind (R170). -/
theorem Moves.enabled {s t : State} (h : Moves s t) : t.events.enabled = s.events.enabled :=
  h.field (f := fun s => s.events.enabled) fun s t m => by
    cases m with
    | raise k i d _ => exact raise_enabled k i d s.events
    | place n k => obtain ⟨q, e⟩ := busPlace_eq s n k; rw [e]; rfl
    | unbind n => obtain ⟨f, e⟩ := writeAccount_eq s n; rw [e]; rfl
    | _ => rfl

/-! ### A change of state and what it asks for -/

/-- The slot takes a new state: beside its record, only latched actions, events and the transaction queue change. -/
def State.Enters (s : State) (n : Slot) (st : SlotState) (q : List BusRequest) (t : State) : Prop :=
  ∃ latched events,
    t = { s with
      slots := changeAt s.slots n (SlotRecord.turned s.tables st)
      swath := { s.swath with latched := latched }
      events := events
      bus := { s.bus with queue := q } }

theorem changeState_enters (s : State) (n : Slot) (st : SlotState) : s.Enters n st s.bus.queue (s.changeState n st) := by
  obtain ⟨slots, latched, events, hj, _⟩ := judges_changeState s n st
  have hslots := changeState_slots s n st
  rw [hj] at hslots
  obtain rfl : slots = _ := hslots
  exact ⟨latched, events, hj⟩

theorem reject_enters (s : State) (n : Slot) (st : SlotState) : s.Enters n st s.bus.queue (s.reject n st) := by
  obtain ⟨latched, events, h⟩ := changeState_enters s n st
  exact ⟨latched, events.raise .rejected n.val 0#32, by rw [State.reject, h]; rfl⟩

theorem reject_holds {s : State} {n : Slot} {st : SlotState} (h : EventKind.rejected ∈ s.events.enabled) :
    (s.reject n st).events.holds .rejected n.val = true :=
  raise_holds ((moves_changeState s n st).enabled ▸ h) _ _

@[simp] theorem reEvaluate_events (s : State) (n : Slot) : (s.reEvaluate n).events = s.events := by
  unfold State.reEvaluate
  split <;> rfl

/-- Only the three low bands have an event (R67). -/
theorem recompute_events {s : State} {n : Slot} (h : (currentBand s.tables (s.slot n)).event = none) :
    (s.recompute n).events = s.events := by
  unfold State.recompute
  dsimp only
  split
  · rfl
  · rw [reEvaluate_events, h]
    rfl

/-- A slot that is neither GENUINE nor SUSPECT has no estimate, so no band (R63, R65). -/
theorem currentBand_unproven {t : Tables} {r : SlotRecord} (h : r.state.isProven = false) : currentBand t r = .none := by
  simp [currentBand, SlotRecord.estimate, h]

theorem changeState_events {s : State} {n : Slot} {st : SlotState} (h : st.isProven = false) :
    (s.changeState n st).events = s.events := by
  rw [State.changeState, reEvaluate_events, recompute_events]
  · rfl
  · rw [slot_onSlot, currentBand_unproven h]
    rfl

/-- A slot that goes to AUTHENTICATING raises no event and has its CHALLENGE queued (R99, R101, R106). -/
theorem authenticate_eq (s : State) (n : Slot) :
    ∃ latched q,
      (s.changeState n .authenticating).askChallenge n =
          { s with
            slots := changeAt s.slots n (SlotRecord.turned s.tables .authenticating)
            swath := { s.swath with latched := latched }
            bus := { s.bus with queue := q } }
        ∧ ⟨n, .challenge⟩ ∈ q := by
  obtain ⟨latched, events, h⟩ := changeState_enters s n .authenticating
  obtain rfl : events = s.events := (congrArg State.events h).symm.trans (changeState_events rfl)
  have hstate : ((s.changeState n .authenticating).slot n).state = .authenticating :=
    congrArg SlotRecord.state (slot_of_changeAt (changeState_slots s n .authenticating))
  have hask : (s.changeState n .authenticating).askChallenge n = (s.changeState n .authenticating).busPlace n .challenge := by
    simp only [State.askChallenge, hstate]
  rw [hask, h]
  by_cases hq : (⟨n, .challenge⟩ : BusRequest) ∈ s.bus.queue
  · exact ⟨latched, s.bus.queue, if_pos hq, hq⟩
  · exact ⟨latched, s.bus.queue ++ [⟨n, .challenge⟩], (if_neg hq).trans rfl, by simp⟩

theorem authenticate_enters (s : State) (n : Slot) :
    ∃ q, s.Enters n .authenticating q ((s.changeState n .authenticating).askChallenge n) ∧ ⟨n, .challenge⟩ ∈ q := by
  obtain ⟨latched, q, h, hq⟩ := authenticate_eq s n
  exact ⟨q, ⟨latched, s.events, h⟩, hq⟩

section
variable {s t : State} {n : Slot} {st : SlotState} {q : List BusRequest} (h : s.Enters n st q t)
include h

theorem State.Enters.slot : t.slot n = (s.slot n).turned s.tables st := by
  obtain ⟨_, _, rfl⟩ := h
  exact slot_of_changeAt (s := s) rfl

theorem State.Enters.slot_ne {m : Slot} (hm : m ≠ n) : t.slot m = s.slot m := by
  obtain ⟨_, _, rfl⟩ := h
  exact slot_of_changeAt_ne (s := s) rfl hm

theorem State.Enters.bus : t.bus = { s.bus with queue := q } := by
  obtain ⟨_, _, rfl⟩ := h
  rfl

theorem State.Enters.known : t.known = s.known := by
  obtain ⟨_, _, rfl⟩ := h
  rfl

theorem State.Enters.residue : t.residue = s.residue := by
  obtain ⟨_, _, rfl⟩ := h
  rfl

theorem State.Enters.state : (t.slot n).state = st := congrArg SlotRecord.state h.slot

end

/-! ### What an identification leaves -/

/-- What O50 says is left of a slot's account, the other slots and the other blocks, whichever way an identification goes. -/
structure IdentifyFrame (s : State) (n : Slot) (t : State) : Prop where
  attempts : (t.slot n).attempts = 0
  allowance : (t.slot n).allowance = (s.slot n).allowance
  pendingDebit : (t.slot n).pendingDebit = (s.slot n).pendingDebit
  tables : t.tables = s.tables
  flight : t.bus.flight = s.bus.flight
  commits : t.commits = s.commits
  nonce : t.nonce = s.nonce
  others : ∀ m, m ≠ n → t.slot m = s.slot m ∧ t.residue[m] = s.residue[m]

theorem IdentifyFrame.enters {s u t : State} {n : Slot} {st : SlotState} {q : List BusRequest} (h : IdentifyFrame s n u)
    (ht : u.Enters n st q t) : IdentifyFrame s n t where
  attempts := (congrArg SlotRecord.attempts ht.slot).trans h.attempts
  allowance := (congrArg SlotRecord.allowance ht.slot).trans h.allowance
  pendingDebit := (congrArg SlotRecord.pendingDebit ht.slot).trans h.pendingDebit
  tables := by obtain ⟨_, _, rfl⟩ := ht; exact h.tables
  flight := (congrArg Bus.flight ht.bus).trans h.flight
  commits := by obtain ⟨_, _, rfl⟩ := ht; exact h.commits
  nonce := by obtain ⟨_, _, rfl⟩ := ht; exact h.nonce
  others m hm := by rw [ht.slot_ne hm, ht.residue]; exact h.others m hm

/-- An identification begins with no attempt counted (R98). -/
def State.unattempted (s : State) (n : Slot) : State := s.onSlot n fun r => { r with attempts := 0 }

theorem unattempted_slot (s : State) (n : Slot) : (s.unattempted n).slot n = { s.slot n with attempts := 0 } := slot_onSlot s n _

theorem unattempted_frame (s : State) (n : Slot) : IdentifyFrame s n (s.unattempted n) where
  attempts := by rw [unattempted_slot]
  allowance := by rw [unattempted_slot]
  pendingDebit := by rw [unattempted_slot]
  tables := rfl
  flight := rfl
  commits := rfl
  nonce := rfl
  others _ hm := ⟨slot_onSlot_ne s hm _, rfl⟩

/-! ### The first entry of the list -/

/-- The list begins with the entry of a serial, which no other entry holds, IN SLOT n; the slot is not GENUINE. -/
structure State.Begins (s : State) (x : Word) (n : Slot) (e : Entry) (rest : List Entry) : Prop where
  known : s.known = e :: rest
  serial : e.serial = x
  residence : e.residence = some n
  others : ∀ f ∈ rest, f.serial ≠ x
  state : (s.slot n).state ≠ .genuine

/-- The first entry has been changed and events may have been raised; nothing else has changed. -/
def State.Notes (s : State) (e : Entry) (rest : List Entry) (t : State) : Prop :=
  ∃ events, t = { s with known := e :: rest, events := events }

theorem State.Notes.trans {s t u : State} {e f : Entry} {rest : List Entry} (h : s.Notes e rest t) (g : t.Notes f rest u) :
    s.Notes f rest u := by
  obtain ⟨_, rfl⟩ := h
  obtain ⟨events, rfl⟩ := g
  exact ⟨events, rfl⟩

theorem State.Notes.tables {s t : State} {e : Entry} {rest : List Entry} (h : s.Notes e rest t) : t.tables = s.tables := by
  obtain ⟨_, rfl⟩ := h
  rfl

section
variable {s : State} {serial : Word} {n : Slot} {e : Entry} {rest : List Entry} (hs : s.Begins serial n e rest)
include hs

/-- A change of the first entry that leaves its place leaves it the first. -/
theorem State.Begins.notes {t : State} {f : Entry} (h : s.Notes f rest t) (hf : f.place = e.place := by rfl) :
    t.Begins serial n f rest := by
  obtain ⟨_, rfl⟩ := h
  obtain ⟨hserial, hresidence⟩ := Prod.mk.inj hf
  exact ⟨rfl, hserial.trans hs.serial, hresidence.trans hs.residence, hs.others, hs.state⟩

theorem State.Begins.refl : s.Notes e rest s := ⟨s.events, by rw [← hs.known]⟩

theorem entry_first : s.entry serial = some e := by
  rw [State.entry, hs.known]
  exact List.find?_cons_of_pos (beq_iff_eq.mpr hs.serial)

theorem onEntry_first (f : Entry → Entry) : s.Notes (f e) rest (s.onEntry serial f) := by
  have hrest : rest.map (fun x => if x.serial = serial then f x else x) = rest :=
    (List.map_congr_left fun x hx => if_neg (hs.others x hx)).trans (List.map_id _)
  refine ⟨s.events, ?_⟩
  rw [State.onEntry, State.onKnown, hs.known, List.map_cons, if_pos hs.serial, hrest]

end

/-- An entry whose mark is set where its count has reached the threshold (R151). -/
def Entry.marked (t : Tables) (e : Entry) : Entry := { e with suspect := e.suspect || decide (t.settings[0] ≤ e.count) }

/-- An entry to which a finding has added its weight (R148, R151). -/
def Entry.weighed (t : Tables) (w : Nat) (e : Entry) : Entry :=
  if w = 0 then e else Entry.marked t { e with count := min (e.count + w) 255 }

theorem Entry.weighed_place (t : Tables) (w : Nat) (e : Entry) : (e.weighed t w).place = e.place := by
  unfold Entry.weighed
  split <;> rfl

section
variable {s : State} {serial : Word} {n : Slot} {e : Entry} {rest : List Entry} (hs : s.Begins serial n e rest)
include hs

/-- A mark that is set raises REFILL WARNING; a slot that is not GENUINE keeps its state (R151). -/
theorem setMark_first : s.Notes (e.marked s.tables) rest (s.setMark serial) := by
  have hset : s.setMark serial =
      if !e.suspect && decide (s.tables.settings[0] ≤ e.count) then
        (s.onEntry serial fun e => { e with suspect := true }).raiseSlot .refillWarning n
      else s := by
    simp only [State.setMark, entry_first hs, hs.residence, if_neg hs.state]
    rfl
  rw [hset]
  split
  · rename_i h
    have hmarked : e.marked s.tables = { e with suspect := true } := by
      simp [Entry.marked, (Bool.and_eq_true_iff.mp h).2]
    obtain ⟨events, hu⟩ := onEntry_first hs fun e => { e with suspect := true }
    rw [hu, hmarked]
    exact ⟨_, rfl⟩
  · rename_i h
    have hsame : (e.suspect || decide (s.tables.settings[0] ≤ e.count)) = e.suspect := by
      cases hsuspect : e.suspect <;> simp_all
    have hmarked : e.marked s.tables = e := by rw [Entry.marked, hsame]
    rw [hmarked]
    exact hs.refl

theorem addWeight_first (w : Nat) : s.Notes (e.weighed s.tables w) rest (s.addWeight serial w) := by
  unfold State.addWeight Entry.weighed
  split
  · exact hs.refl
  · have hcounted := onEntry_first hs fun e => { e with count := min (e.count + w) 255 }
    rw [← hcounted.tables]
    exact hcounted.trans (setMark_first (hs.notes hcounted))

end

/-! ### The checks at binding -/

/-- The weight of what the generation tells: a reuse, a regress, or nothing (R137, R138). -/
def generationWeight (t : Tables) (found : Option Entry) (id : Identity) : Nat :=
  match found with
  | none => 0
  | some e =>
    if e.exhausted = true then if id.generation.toNat ≤ e.generation.toNat then t.settings[6] else 0
    else if id.generation.toNat < e.generation.toNat then t.settings[5] else 0

/-- A refurbishment: the entry is exhausted and the generation above its own (R137). -/
def refurbishes (found : Option Entry) (id : Identity) : Bool :=
  match found with
  | none => false
  | some e => e.exhausted && decide (e.generation.toNat < id.generation.toNat)

/-- The weight of a capacity above the class's ceiling (R139). -/
def capacityWeight (t : Tables) (ceiling : Nat) (id : Identity) : Nat := if ceiling < id.capacity then t.settings[4] else 0

/-- An entry after the check of the generation (R137, R138). -/
def Entry.compared (t : Tables) (found : Option Entry) (id : Identity) (e : Entry) : Entry :=
  Entry.weighed t (generationWeight t found id) { e with refurbished := refurbishes found id }

theorem Entry.compared_place (t : Tables) (found : Option Entry) (id : Identity) (e : Entry) :
    (e.compared t found id).place = e.place := Entry.weighed_place t _ _

/-- An entry after the checks at binding (R137 to R139). -/
def Entry.checked (t : Tables) (found : Option Entry) (id : Identity) (ceiling : Nat) (e : Entry) : Entry :=
  (e.compared t found id).weighed t (capacityWeight t ceiling id)

theorem Entry.checked_place (t : Tables) (found : Option Entry) (id : Identity) (ceiling : Nat) (e : Entry) :
    (e.checked t found id ceiling).place = e.place := (Entry.weighed_place t _ _).trans (e.compared_place t found id)

/-- The check of the generation, the first of the checks at binding (R137, R138). -/
def State.checkGeneration (s : State) (found : Option Entry) (id : Identity) : State :=
  match found with
  | none => s
  | some e =>
    if e.exhausted then
      if id.generation.toNat ≤ e.generation.toNat then s.addWeight id.serial s.tables.reuseWeight
      else s.onEntry id.serial fun e => { e with refurbished := true }
    else if id.generation.toNat < e.generation.toNat then s.addWeight id.serial s.tables.regressWeight
    else s

theorem addWeight_zero (s : State) (serial : Word) : s.addWeight serial 0 = s := if_pos rfl

theorem bindingChecks_eq (s : State) (found : Option Entry) (id : Identity) (ceiling : Nat) :
    s.bindingChecks found id ceiling =
      (s.checkGeneration found id).addWeight id.serial (capacityWeight (s.checkGeneration found id).tables ceiling id) := by
  have h : s.bindingChecks found id ceiling =
      if ceiling < id.capacity then
        (s.checkGeneration found id).addWeight id.serial (s.checkGeneration found id).tables.excessWeight
      else s.checkGeneration found id := by
    cases found <;> rfl
  rw [h, capacityWeight]
  split
  · rfl
  · rw [addWeight_zero]

section
variable {s : State} {id : Identity} {n : Slot} {e : Entry} {rest : List Entry} (hs : s.Begins id.serial n e rest)
include hs

theorem checkGeneration_first (hf : e.refurbished = false) (found : Option Entry) :
    s.Notes (e.compared s.tables found id) rest (s.checkGeneration found id) := by
  have hclear : ({ e with refurbished := false } : Entry) = e := by rw [← hf]
  cases found with
  | none =>
    change s.Notes { e with refurbished := false } rest s
    rw [hclear]
    exact hs.refl
  | some x =>
    unfold State.checkGeneration Entry.compared generationWeight refurbishes
    cases hx : x.exhausted with
    | false =>
      by_cases hlt : id.generation.toNat < x.generation.toNat
      · simpa [hx, hlt, hclear, Tables.regressWeight] using addWeight_first hs s.tables.settings[5]
      · simpa [hx, hlt, hclear, Entry.weighed] using hs.refl
    | true =>
      by_cases hle : id.generation.toNat ≤ x.generation.toNat
      · simpa [hx, hle, Nat.not_lt.mpr hle, hclear, Tables.reuseWeight] using addWeight_first hs s.tables.settings[6]
      · simpa [hx, hle, Nat.lt_of_not_le hle, Entry.weighed] using onEntry_first hs fun e => { e with refurbished := true }

theorem bindingChecks_first (hf : e.refurbished = false) (found : Option Entry) (ceiling : Nat) :
    s.Notes (e.checked s.tables found id ceiling) rest (s.bindingChecks found id ceiling) := by
  have hcompared := checkGeneration_first hs hf found
  rw [bindingChecks_eq, hcompared.tables, Entry.checked]
  have hweighed := addWeight_first (hs.notes hcompared (e.compared_place _ _ _)) (capacityWeight s.tables ceiling id)
  rw [hcompared.tables] at hweighed
  exact hcompared.trans hweighed

end

/-- The end of a binding settles the mark, and REFILL WARNING is pending if it is set (R140). -/
theorem endBinding_first {s : State} {serial : Word} {n : Slot} {e : Entry} {rest : List Entry}
    (hs : s.Begins serial n e rest) :
    s.Notes (e.marked s.tables) rest (s.endBinding serial n)
      ∧ ((e.marked s.tables).suspect = true → EventKind.refillWarning ∈ s.events.enabled →
          (s.endBinding serial n).events.holds .refillWarning n.val = true) := by
  have hmark := setMark_first hs
  have hend : s.endBinding serial n =
      if (e.marked s.tables).suspect then (s.setMark serial).raiseSlot .refillWarning n else s.setMark serial := by
    simp only [State.endBinding, entry_first (hs.notes hmark)]
  rw [hend]
  split
  · refine ⟨?_, fun _ hk => raise_holds ((moves_setMark s _).enabled ▸ hk) _ _⟩
    obtain ⟨events, h⟩ := hmark
    rw [h]
    exact ⟨_, rfl⟩
  · rename_i h
    exact ⟨hmark, fun h' => absurd h' h⟩

/-! ### The binding -/

/-- The entry that a cartridge with no entry starts from (R135). -/
def blankEntry (id : Identity) : Entry :=
  { serial := id.serial, product := id.product, generation := id.generation, lastLevel := none, unsettled := 0, inDoubt := none,
    count := 0, exhausted := false, suspect := false, residence := none, carried := none, refurbished := false }

/-- An entry as the binding to a slot enters it, before the checks (R135). -/
def Entry.entered (id : Identity) (n : Slot) (e : Entry) : Entry :=
  { e with serial := id.serial, product := id.product, residence := some n, carried := some e.unsettled, refurbished := false }

/-- The list behind the entry of a cartridge that is bound (R133, R135, R136). -/
def State.restOf (s : State) (serial : Word) : List Entry :=
  if (s.entry serial).isSome then s.known.filter fun e => e.serial ≠ serial else makeRoom s.known

theorem bindEntry_eq (s : State) (id : Identity) (n : Slot) :
    bindEntry s.known id n = ((s.entry id.serial).getD (blankEntry id)).entered id n :: s.restOf id.serial := by
  have hfind : (s.known.find? fun e => e.serial == id.serial) = s.entry id.serial := rfl
  rw [bindEntry, State.restOf, hfind]
  cases h : s.entry id.serial with
  | none => rfl
  | some e =>
    have hserial : e.serial = id.serial := by simpa using List.find?_some (hfind.trans h)
    have hfilter : (fun e : Entry => !(e.serial == id.serial)) = fun e => decide (e.serial ≠ id.serial) := by
      funext e
      rw [decide_not, beq_eq_decide]
    simp [hfilter, Entry.entered, reboundEntry, hserial]

theorem restOf_serial {s : State} {serial : Word} {x : Entry} (hx : x ∈ s.restOf serial) : x.serial ≠ serial := by
  unfold State.restOf at hx
  split at hx
  · simpa using (List.mem_filter.mp hx).2
  · rename_i h
    have hnone : s.entry serial = none := Option.not_isSome_iff_eq_none.mp h
    exact fun e => List.find?_eq_none.mp hnone x ((makeRoom_sublist _).subset hx) (beq_iff_eq.mpr e)

/-- The entry of a cartridge as its binding leaves it (R135 to R140). -/
def State.boundEntry (s : State) (n : Slot) (id : Identity) (c : Fin 16) : Entry :=
  ((((s.entry id.serial).getD (blankEntry id)).entered id n).checked s.tables (s.entry id.serial) id
    s.tables.classes[c].ceiling).marked s.tables

/-- A binding touches the slot's record, its residue, the list and the events (R99, R135 to R140). -/
theorem bind_eq {s : State} {n : Slot} (hg : (s.slot n).state = .identifying) (id : Identity) (c : Fin 16) :
    (s.bindTo n id c).Notes (s.boundEntry n id c) (s.restOf id.serial) (s.bind n id c)
      ∧ ((s.boundEntry n id c).suspect = true → EventKind.refillWarning ∈ s.events.enabled →
          (s.bind n id c).events.holds .refillWarning n.val = true) := by
  have hstate : ((s.bindTo n id c).slot n).state ≠ .genuine := by
    rw [slot_of_changeAt (bindTo_slots s n id c)]
    change (s.slot n).state ≠ _
    rw [hg]
    nofun
  have hbegins : (s.bindTo n id c).Begins id.serial n (((s.entry id.serial).getD (blankEntry id)).entered id n)
      (s.restOf id.serial) := ⟨bindEntry_eq s id n, rfl, rfl, fun _ => restOf_serial, hstate⟩
  have hchecks := bindingChecks_first hbegins rfl (s.entry id.serial) s.tables.classes[c].ceiling
  obtain ⟨hend, hholds⟩ := endBinding_first (hbegins.notes hchecks (Entry.checked_place _ _ _ _ _))
  rw [hchecks.tables] at hend hholds
  refine ⟨hchecks.trans hend, fun hsuspect hk => hholds hsuspect ?_⟩
  rw [(moves_bindingChecks _ _ _ _).enabled]
  exact hk

theorem bind_slot {s : State} {n : Slot} (hg : (s.slot n).state = .identifying) (id : Identity) (c : Fin 16) :
    (s.bind n id c).slot n = (s.slot n).bound ⟨id, c⟩ := by
  obtain ⟨⟨events, h⟩, _⟩ := bind_eq hg id c
  rw [h]
  exact slot_of_changeAt (bindTo_slots s n id c)

theorem bind_bus {s : State} {n : Slot} (hg : (s.slot n).state = .identifying) (id : Identity) (c : Fin 16) :
    (s.bind n id c).bus = s.bus := by
  obtain ⟨⟨events, h⟩, _⟩ := bind_eq hg id c
  rw [h]
  rfl

theorem bind_known {s : State} {n : Slot} (hg : (s.slot n).state = .identifying) (id : Identity) (c : Fin 16) :
    (s.bind n id c).known = s.boundEntry n id c :: s.restOf id.serial := by
  obtain ⟨⟨events, h⟩, _⟩ := bind_eq hg id c
  rw [h]

theorem bind_residue {s : State} {n : Slot} (hg : (s.slot n).state = .identifying) (id : Identity) (c : Fin 16) :
    (s.bind n id c).residue = (s.setResidue n 0).residue := by
  obtain ⟨⟨events, h⟩, _⟩ := bind_eq hg id c
  rw [h]
  rfl

theorem IdentifyFrame.bind {s u : State} {n : Slot} (h : IdentifyFrame s n u) (hg : (u.slot n).state = .identifying) (id : Identity)
    (c : Fin 16) : IdentifyFrame s n (u.bind n id c) where
  attempts := (congrArg SlotRecord.attempts (bind_slot hg id c)).trans h.attempts
  allowance := (congrArg SlotRecord.allowance (bind_slot hg id c)).trans h.allowance
  pendingDebit := (congrArg SlotRecord.pendingDebit (bind_slot hg id c)).trans h.pendingDebit
  tables := by obtain ⟨⟨_, e⟩, _⟩ := bind_eq hg id c; rw [e]; exact h.tables
  flight := (congrArg Bus.flight (bind_bus hg id c)).trans h.flight
  commits := by obtain ⟨⟨_, e⟩, _⟩ := bind_eq hg id c; rw [e]; exact h.commits
  nonce := by obtain ⟨⟨_, e⟩, _⟩ := bind_eq hg id c; rw [e]; exact h.nonce
  others m hm := by
    obtain ⟨hslot, hresidue⟩ := h.others m hm
    rw [bind_residue hg, residue_setResidue_ne u hm]
    refine ⟨?_, hresidue⟩
    obtain ⟨⟨_, e⟩, _⟩ := bind_eq hg id c
    rw [e]
    exact (slot_of_changeAt_ne (bindTo_slots u n id c) hm).trans hslot

/-! ### The state of a slot newly bound -/

theorem settleBinding_misfit {s : State} {n : Slot} {id : Identity} {c : Fin 16}
    (h : id.colours &&& s.tables.classes[c].colours &&& s.tables.sockets[n].colours = 0#8) (reused : Bool) :
    s.settleBinding n id c reused = s.reject n .misplaced :=
  if_pos (by simp only [colourFits, h]; rfl)

theorem settleBinding_fit {s : State} {n : Slot} {id : Identity} {c : Fin 16}
    (h : id.colours &&& s.tables.classes[c].colours &&& s.tables.sockets[n].colours ≠ 0#8) (reused : Bool) :
    s.settleBinding n id c reused =
      if reused then s.reject n .reused else (s.changeState n .authenticating).askChallenge n :=
  if_neg (by simpa [colourFits] using h)

theorem settleBinding_enters (s : State) (n : Slot) (id : Identity) (c : Fin 16) (reused : Bool) :
    ∃ st q, s.Enters n st q (s.settleBinding n id c reused) := by
  by_cases h : id.colours &&& s.tables.classes[c].colours &&& s.tables.sockets[n].colours = 0#8
  · rw [settleBinding_misfit h]
    exact ⟨_, _, reject_enters s n _⟩
  · rw [settleBinding_fit h]
    split
    · exact ⟨_, _, reject_enters s n _⟩
    · obtain ⟨q, hq, _⟩ := authenticate_enters s n
      exact ⟨_, _, hq⟩

theorem reuseFound_iff (found : Option Entry) (id : Identity) :
    reuseFound found id = true ↔ ∃ e, found = some e ∧ e.exhausted = true ∧ id.generation.toNat ≤ e.generation.toNat := by
  cases found <;> simp [reuseFound]

/-! ### The entry as the binding leaves it -/

/-- A mark set at a lower count is set at a higher one. -/
theorem marked_recount {t : Tables} {e : Entry} {d : Nat} (h : e.count ≤ d) :
    Entry.marked t { e.marked t with count := d } = Entry.marked t { e with count := d } := by
  have hsuspect : (e.suspect || decide (t.settings[0] ≤ e.count) || decide (t.settings[0] ≤ d))
      = (e.suspect || decide (t.settings[0] ≤ d)) := by
    by_cases hc : t.settings[0] ≤ e.count
    · simp [hc.trans h]
    · simp [hc]
  exact congrArg (fun b => ({ e with count := d, suspect := b } : Entry)) hsuspect

theorem marked_marked (t : Tables) (e : Entry) : (e.marked t).marked t = e.marked t := marked_recount (le_refl e.count)

/-- Two weights added one after the other are one sum, and the mark is set once (R148, R151). -/
theorem weighed_weighed_marked (t : Tables) (a b : Nat) (e : Entry) :
    ((e.weighed t a).weighed t b).marked t =
      Entry.marked t { e with count := if a + b = 0 then e.count else min (e.count + a + b) 255 } := by
  by_cases ha : a = 0
  · by_cases hb : b = 0
    · simp [Entry.weighed, ha, hb]
    · simp [Entry.weighed, ha, hb, marked_marked]
  · by_cases hb : b = 0
    · simp [Entry.weighed, ha, hb, marked_marked]
    · have hcount : min (min (e.count + a) 255 + b) 255 = min (e.count + a + b) 255 := by omega
      have hrecount := marked_recount (t := t) (e := { e with count := min (e.count + a) 255 })
        (d := min (e.count + a + b) 255) (by dsimp only; omega)
      have hsum : a + b ≠ 0 := by omega
      simp only [Entry.weighed, if_neg ha, if_neg hb, if_neg hsum, marked_marked]
      rw [← hrecount, ← hcount]
      rfl

theorem refurbishes_eq (found : Option Entry) (id : Identity) :
    refurbishes found id = ((found.getD (blankEntry id)).exhausted
      && decide ((found.getD (blankEntry id)).generation.toNat < id.generation.toNat)) := by
  cases found <;> rfl

/-- The entry of a cartridge as its binding leaves it, field by field. -/
theorem boundEntry_eq (s : State) (n : Slot) (id : Identity) (c : Fin 16) :
    let old := (s.entry id.serial).getD (blankEntry id)
    let a := generationWeight s.tables (s.entry id.serial) id
    let b := capacityWeight s.tables s.tables.classes[c].ceiling id
    let count := if a + b = 0 then old.count else min (old.count + a + b) 255
    s.boundEntry n id c =
      { old with
        serial := id.serial
        product := id.product
        count := count
        suspect := old.suspect || decide (s.tables.settings[0] ≤ count)
        residence := some n
        carried := some old.unsettled
        refurbished := old.exhausted && decide (old.generation.toNat < id.generation.toNat) } := by
  intro old a b count
  rw [State.boundEntry, Entry.checked, Entry.compared, weighed_weighed_marked, refurbishes_eq]
  rfl

/-! ### Classes and serials -/

theorem classMatches_iff (e : ClassEntry) (product : BitVec 16) :
    e.matches product = true ↔ e.valid = true ∧ (product ^^^ e.code) &&& ~~~e.mask = 0#16 := by
  simp [ClassEntry.matches]

theorem classOf_eq_none {t : Tables} {product : BitVec 16} :
    t.classOf product = none ↔ ∀ k : Fin 16, ¬t.classes[k].matches product = true := by
  simp [Tables.classOf]

theorem classOf_eq_some {t : Tables} {product : BitVec 16} {k : Fin 16} (hk : t.classes[k].matches product = true)
    (hfirst : ∀ j < k, ¬t.classes[j].matches product = true) : t.classOf product = some k := by
  refine List.find?_eq_some_iff_getElem.mpr ⟨hk, k.val, by simp, by simp, fun j hj => ?_⟩
  simpa using hfirst ⟨j, by omega⟩ hj

theorem boundElsewhere_iff (s : State) (serial : Word) (n : Slot) :
    s.boundElsewhere serial n = true ↔ ∃ e ∈ s.known, e.serial = serial ∧ ∃ m, m ≠ n ∧ e.residence = some m := by
  simp only [State.boundElsewhere, List.any_eq_true, Bool.and_eq_true, beq_iff_eq]
  refine exists_congr fun e => and_congr_right fun _ => and_congr_right fun _ => ?_
  cases e.residence <;> simp

/-! ### Identification -/

/-- The record of a slot whose cartridge has repeated its identity (R101). -/
def SlotRecord.reidentified (r : SlotRecord) : SlotRecord := { r with state := .authenticating, attempts := 0, band := .none }

section
variable {s : State} {n : Slot} {id : Identity}

theorem identification_rejects (h : s.tables.classOf id.product = none ∨ s.boundElsewhere id.serial n = true) :
    s.identification n id = (s.unattempted n).reject n .foreign := by
  unfold State.identification
  dsimp only
  split
  · rfl
  · rename_i hc
    rw [hc] at h
    rw [if_pos (h.resolve_left nofun)]
    rfl

theorem identification_binds {c : Fin 16} (hc : s.tables.classOf id.product = some c) (he : s.boundElsewhere id.serial n = false) :
    s.identification n id =
      ((s.unattempted n).bind n id c).settleBinding n id c (reuseFound (s.entry id.serial) id) := by
  unfold State.identification
  simp only [hc, he, State.unattempted]
  rfl

theorem identification_rejected (hb : (s.slot n).binding = none)
    (h : s.tables.classOf id.product = none ∨ s.boundElsewhere id.serial n = true) :
    ((s.identification n id).slot n).state = .foreign ∧ ((s.identification n id).slot n).binding = none
      ∧ (s.identification n id).known = s.known ∧ (s.identification n id).bus = s.bus
      ∧ (EventKind.rejected ∈ s.events.enabled → (s.identification n id).events.holds .rejected n.val = true) := by
  rw [identification_rejects h]
  have hreject := reject_enters (s.unattempted n) n .foreign
  have hbinding : (((s.unattempted n).reject n .foreign).slot n).binding = none := by
    rw [hreject.slot, unattempted_slot]
    exact hb
  exact ⟨hreject.state, hbinding, hreject.known, hreject.bus, fun hk => reject_holds hk⟩

variable (hst : (s.slot n).state = .identifying)
include hst

theorem identifyOutcome_unbound (hb : (s.slot n).binding = none) (fields : List Byte) :
    s.identifyOutcome n (.replied fields) = s.identification n (parseIdentity fields) := by
  simp only [State.identifyOutcome, if_pos hst, hb]

theorem identifyOutcome_bound {b : Binding} (hb : (s.slot n).binding = some b) (fields : List Byte) :
    s.identifyOutcome n (.replied fields) = s.reidentification n b (parseIdentity fields) := by
  simp only [State.identifyOutcome, if_pos hst, hb]

theorem unattempted_state : ((s.unattempted n).slot n).state = .identifying := by
  rw [unattempted_slot]
  exact hst

theorem identification_frame : IdentifyFrame s n (s.identification n id) := by
  have hrejected (h : s.tables.classOf id.product = none ∨ s.boundElsewhere id.serial n = true) :
      IdentifyFrame s n (s.identification n id) := by
    rw [identification_rejects h]
    exact (unattempted_frame s n).enters (reject_enters _ n _)
  cases hc : s.tables.classOf id.product with
  | none => exact hrejected (.inl hc)
  | some c =>
    cases he : s.boundElsewhere id.serial n with
    | true => exact hrejected (.inr he)
    | false =>
      rw [identification_binds hc he]
      obtain ⟨st, q, h⟩ := settleBinding_enters ((s.unattempted n).bind n id c) n id c (reuseFound (s.entry id.serial) id)
      exact ((unattempted_frame s n).bind (unattempted_state hst) id c).enters h

/-- A cartridge that is bound goes to the state of the first line of R100's table that applies. -/
theorem identification_state (hb : (s.slot n).binding = none) {c : Fin 16} (hc : s.tables.classOf id.product = some c)
    (he : s.boundElsewhere id.serial n = false) :
    if id.colours &&& s.tables.classes[c].colours &&& s.tables.sockets[n].colours = 0#8 then
      ((s.identification n id).slot n).state = .misplaced ∧ (s.identification n id).bus = s.bus
        ∧ (EventKind.rejected ∈ s.events.enabled → (s.identification n id).events.holds .rejected n.val = true)
    else if reuseFound (s.entry id.serial) id = true then
      ((s.identification n id).slot n).state = .reused ∧ (s.identification n id).bus = s.bus
        ∧ (EventKind.rejected ∈ s.events.enabled → (s.identification n id).events.holds .rejected n.val = true)
    else ((s.identification n id).slot n).state = .authenticating ∧ ⟨n, .challenge⟩ ∈ (s.identification n id).bus.queue := by
  obtain ⟨u, hu⟩ : ∃ u, u = (s.unattempted n).bind n id c := ⟨_, rfl⟩
  have hmoves : Moves (s.unattempted n) u := hu ▸ moves_bind _ n id c (by rw [unattempted_slot]; exact hb) he
  have hbus : u.bus = s.bus := by
    rw [hu]
    exact bind_bus (unattempted_state hst) id c
  have htables : u.tables = s.tables := hmoves.tables
  have hrejected (st : SlotState) : ((u.reject n st).slot n).state = st ∧ (u.reject n st).bus = s.bus
      ∧ (EventKind.rejected ∈ s.events.enabled → (u.reject n st).events.holds .rejected n.val = true) :=
    ⟨(reject_enters u n st).state, (reject_enters u n st).bus.trans hbus, fun hk => reject_holds (hmoves.enabled ▸ hk)⟩
  rw [identification_binds hc he, ← hu]
  by_cases hcolours : id.colours &&& s.tables.classes[c].colours &&& s.tables.sockets[n].colours = 0#8
  · rw [if_pos hcolours, settleBinding_misfit (by rw [htables]; exact hcolours)]
    exact hrejected .misplaced
  · rw [if_neg hcolours, settleBinding_fit (by rw [htables]; exact hcolours)]
    by_cases hreused : reuseFound (s.entry id.serial) id = true
    · rw [if_pos hreused, if_pos hreused]
      exact hrejected .reused
    · rw [if_neg hreused, if_neg hreused]
      obtain ⟨q, hq, hmem⟩ := authenticate_enters u n
      exact ⟨hq.state, by rw [hq.bus]; exact hmem⟩

theorem identification_account {c : Fin 16} (hc : s.tables.classOf id.product = some c)
    (he : s.boundElsewhere id.serial n = false) :
    ((s.identification n id).slot n).binding = some ⟨id, c⟩ ∧ ((s.identification n id).slot n).level = none
      ∧ ((s.identification n id).slot n).proven = false ∧ (s.identification n id).residue[n] = 0
      ∧ (s.identification n id).known = s.boundEntry n id c :: s.restOf id.serial
      ∧ ((s.boundEntry n id c).suspect = true → EventKind.refillWarning ∈ s.events.enabled →
          (s.identification n id).events.holds .refillWarning n.val = true) := by
  have hidentifying := unattempted_state hst
  rw [identification_binds hc he]
  obtain ⟨st, q, h⟩ := settleBinding_enters ((s.unattempted n).bind n id c) n id c (reuseFound (s.entry id.serial) id)
  refine ⟨?_, ?_, ?_, ?_, h.known.trans (bind_known hidentifying id c), fun hsuspect hk => ?_⟩
  · rw [h.slot, bind_slot hidentifying]
    rfl
  · rw [h.slot, bind_slot hidentifying]
    rfl
  · rw [h.slot, bind_slot hidentifying]
    rfl
  · rw [h.residue, bind_residue hidentifying]
    exact residue_setResidue _ n 0
  · exact (moves_settleBinding _ n id c _).holds ((bind_eq hidentifying id c).2 hsuspect hk)

/-- A bound slot that repeats its identity has its CHALLENGE queued, with no attempt counted and no band (R101). -/
theorem reidentification_repeats {b : Binding} (hid : id = b.identity) :
    ∃ latched q,
      s.reidentification n b id =
          { s with
            slots := changeAt s.slots n SlotRecord.reidentified
            swath := { s.swath with latched := latched }
            bus := { s.bus with queue := q } }
        ∧ ⟨n, .challenge⟩ ∈ q := by
  obtain ⟨latched, q, h, hq⟩ := authenticate_eq (s.unattempted n) n
  refine ⟨latched, q, ?_, hq⟩
  have hslots : changeAt (s.unattempted n).slots n (SlotRecord.turned s.tables .authenticating) =
      changeAt s.slots n SlotRecord.reidentified := by
    rw [State.unattempted, State.onSlot_slots, changeAt_changeAt]
    refine changeAt_congr ?_
    have hproven : (s.slot n).state.isProven = false := by rw [hst]; rfl
    have hauthenticating : SlotState.authenticating.isProven = false := rfl
    change SlotRecord.turned s.tables .authenticating { s.slot n with attempts := 0 } =
      (s.slot n).reidentified
    simp [SlotRecord.reidentified, SlotRecord.turned, SlotRecord.banded, currentBand_unproven, hproven, hauthenticating]
  have hsame : s.reidentification n b id = ((s.unattempted n).changeState n .authenticating).askChallenge n := if_pos hid
  rw [hsame, h, ← hslots]
  rfl

end

/-- Settles O50: an outcome is discarded outside IDENTIFYING; an unbound slot is identified, a bound one re-identified. -/
theorem identificationBindsOrRejects : Obligations.IdentificationBindsOrRejects := by
  refine ⟨fun s n outcome h => if_neg h, fun s n fields hst => ?_⟩
  intro id matchesClass elsewhere t raised
  refine ⟨fun hb => ?_, fun b hb => ?_⟩
  · intro found reused
    have ht : t = s.identification n id := identifyOutcome_unbound hst hb fields
    clear_value t
    subst ht
    have hframe : IdentifyFrame s n (s.identification n id) := identification_frame hst
    have hmatches (k : Fin 16) : matchesClass k ↔ s.tables.classes[k].matches id.product = true := (classMatches_iff _ _).symm
    have helsewhere : elsewhere ↔ s.boundElsewhere id.serial n = true := (boundElsewhere_iff s id.serial n).symm
    refine ⟨hframe.attempts, hframe.allowance, hframe.pendingDebit, hframe.tables, hframe.flight, hframe.commits, hframe.nonce,
      hframe.others, fun h => ?_, fun k hk hfirst hnot => ?_⟩
    · refine identification_rejected hb (h.imp (fun hnone => ?_) helsewhere.mp)
      exact classOf_eq_none.mpr fun k hk => hnone k ((hmatches k).mpr hk)
    · intro generationWeight capacityWeight old count made
      have hc : s.tables.classOf id.product = some k :=
        classOf_eq_some ((hmatches k).mp hk) fun j hj hm => hfirst j hj ((hmatches j).mpr hm)
      have he : s.boundElsewhere id.serial n = false := Bool.eq_false_iff.mpr (mt helsewhere.mpr hnot)
      have hmade : s.boundEntry n id k = made := boundEntry_eq s n id k
      obtain ⟨hbinding, hlevel, hproven, hresidue, hknown, hwarned⟩ := identification_account hst hc he
      have hstate := identification_state hst hb hc he
      rw [hmade] at hknown hwarned
      refine ⟨hbinding, hlevel, hproven, hresidue, hknown, hwarned, ?_⟩
      split
      · rwa [if_pos ‹_›] at hstate
      · rw [if_neg ‹_›] at hstate
        split
        · rwa [if_pos ((reuseFound_iff found id).mpr ‹_›)] at hstate
        · rwa [if_neg (mt (reuseFound_iff found id).mp ‹_›)] at hstate
  · have ht : t = s.reidentification n b id := identifyOutcome_bound hst hb fields
    clear_value t
    subst ht
    split
    · obtain ⟨latched, q, h, hq⟩ := reidentification_repeats hst ‹id = b.identity›
      have hslots : (s.reidentification n b id).slots = changeAt s.slots n SlotRecord.reidentified := congrArg State.slots h
      rw [h] at hslots ⊢
      exact ⟨slot_of_changeAt hslots, hq, fun m hm => slot_of_changeAt_ne hslots hm, rfl, rfl, rfl, rfl, rfl, rfl, rfl⟩
    · exact if_neg ‹_›

end Sys2Proof.Machine
end

section
/-! PROOFS. O59: REAUTHENTICATE SLOT, COMMIT SLOT, PARK, RESUME and the requests that no rule acts on (R106, R118, R120, R157, R167,
R175, R176, R178; log entry 7). -/

namespace Sys2Proof.Machine

/-! ### Asking for a CHALLENGE and for a commit -/

theorem busPlace_ite (s : State) (n : Slot) (k : BusKind) :
    s.busPlace n k =
      { s with bus := { s.bus with queue := if ⟨n, k⟩ ∈ s.bus.queue then s.bus.queue else s.bus.queue ++ [⟨n, k⟩] } } := by
  unfold State.busPlace
  split <;> rfl

/-- A challenge sequence is open while attempts are counted, or a CHALLENGE is queued or in flight (R106). -/
theorem sequenceOpen_iff (s : State) (n : Slot) :
    s.sequenceOpen n = true ↔ 0 < (s.slot n).attempts ∨ ⟨n, .challenge⟩ ∈ s.bus.queue
      ∨ ∃ f ∈ s.bus.flight, f.slot = n ∧ f.kind = .challenge := by
  have hflight : s.challengeInFlight n = true ↔ ∃ f ∈ s.bus.flight, f.slot = n ∧ f.kind = .challenge := by
    unfold State.challengeInFlight
    cases s.bus.flight <;> simp
  simp [State.sequenceOpen, hflight, or_assoc]

/-- A GENUINE or SUSPECT slot opens a challenge sequence or joins the one that is open (R106). -/
theorem askChallenge_proven {s : State} {n : Slot} (h : (s.slot n).state.isProven = true) :
    s.askChallenge n =
      if s.sequenceOpen n then s.busPlace n .challenge
      else (s.onSlot n fun r => { r with allowance := s.tables.aRun, attempts := 0 }).busPlace n .challenge := by
  unfold State.askChallenge
  cases hst : (s.slot n).state with
  | genuine | suspect => rfl
  | _ =>
    rw [hst] at h
    cases h

/-! ### Requests answered without results -/

/-- The state with one more reply, a status without results, to a request of an earlier state. -/
def State.replied (s : State) (r : Request) (v : State) (status : Status) : State :=
  { v with link := { v.link with replies := v.link.replies ++ [s.replyTo r status []] } }

/-- A taking whose act leaves the Link Interface and gives a status alone places that reply (R11, R155). -/
theorem takeRequest_replied {s v : State} {r : Request} {act : State → List Byte → State × Reply} {status : Status}
    (hact : act s.popRequest r.args = (v, ⟨status, []⟩)) (hlink : v.link = s.link) :
    s.takeRequest r act = s.replied r v status := by
  rw [takeRequest_eq, hact, ite_self, State.placeReply, State.onLink, hlink, State.replied, State.replyTo, hlink]

/-- The row of the request at the front acts on it, and the event ends with the queue considered (R157; log entry 5). -/
theorem exec_row_takes {s : State} {r : Request} (hr : s.run = .running) (ho : s.offers r) :
    exec r.row s = .next (s.takeRequest r (State.actOn r.code)).finish.serve := by
  have hf := (offers_iff s r).mp ho
  rw [exec_row hr hf, serve_some hf]

theorem exec_row_replied {s v : State} {r : Request} {status : Status} (hr : s.run = .running) (ho : s.offers r)
    (hact : s.popRequest.actOn r.code r.args = (v, ⟨status, []⟩)) (hlink : v.link = s.link) :
    exec r.row s = .next (s.replied r v status).finish.serve := by
  rw [exec_row_takes hr ho, takeRequest_replied hact hlink]

/-! ### REAUTHENTICATE SLOT and COMMIT SLOT -/

/-- The state after a request that names a slot alone and acts on GENUINE and SUSPECT slots by `f` (R157, R167). -/
def State.answerSlot (s : State) (r : Request) (f : State → Slot → State) : State :=
  match r.args with
  | [b] =>
    if h : b.toNat < 12 then
      if (s.slot ⟨b.toNat, h⟩).state.isProven then s.replied r (f s.popRequest ⟨b.toNat, h⟩) .queued
      else s.replied r s.popRequest .state
    else s.replied r s.popRequest .range
  | _ => s.replied r s.popRequest .range

theorem takeRequest_slotArgument (s : State) (r : Request) {act : State → Slot → State × Reply} {f : State → Slot → State}
    (hact : ∀ v n, act v n = if (v.slot n).state.isProven then queued (f v n) else refuse v .state)
    (hlink : ∀ v n, (f v n).link = v.link) :
    s.takeRequest r (slotArgument act) = s.answerSlot r f := by
  have hrange (h : slotArgument act s.popRequest r.args = refuse s.popRequest .range) :
      s.takeRequest r (slotArgument act) = s.replied r s.popRequest .range := takeRequest_replied h rfl
  unfold State.answerSlot
  split
  · rename_i b hargs
    have hone : slotArgument act s.popRequest r.args =
        if h : b.toNat < 12 then act s.popRequest ⟨b.toNat, h⟩ else refuse s.popRequest .range := by rw [hargs]; rfl
    split
    · rename_i hb
      have hslot : s.popRequest.slot ⟨b.toNat, hb⟩ = s.slot ⟨b.toNat, hb⟩ := rfl
      rw [dif_pos hb, hact, hslot] at hone
      split
      · rename_i hproven
        rw [if_pos hproven] at hone
        exact takeRequest_replied hone (hlink _ _)
      · rename_i hproven
        rw [if_neg hproven] at hone
        exact takeRequest_replied hone rfl
    · rename_i hb
      exact hrange (hone.trans (dif_neg hb))
  · rename_i hargs
    refine hrange ?_
    unfold slotArgument
    split
    · rename_i b h
      exact absurd h (hargs b)
    · rfl

section
variable {placed : State → Slot → BusKind → State} (hplaced : placed = State.busPlace)
include hplaced

/-- O59's words for the opening or joining of a challenge sequence. -/
theorem challenged_eq (v : State) (n : Slot) :
    (if (v.slot n).state.isProven = false then v
      else if 0 < (v.slot n).attempts ∨ ⟨n, .challenge⟩ ∈ v.bus.queue ∨ (∃ f ∈ v.bus.flight, f.slot = n ∧ f.kind = .challenge) then
        placed v n .challenge
      else
        placed { v with slots := v.slots.set n.val { v.slot n with allowance := v.tables.settings[12], attempts := 0 } } n
          .challenge) = v.challengeProven n := by
  subst hplaced
  cases hproven : (v.slot n).state.isProven with
  | false =>
    rw [if_pos rfl]
    exact (if_neg (by simp [hproven])).symm
  | true =>
    have hask : v.challengeProven n = v.askChallenge n := if_pos hproven
    rw [hask, askChallenge_proven hproven, if_neg nofun]
    by_cases hopen : v.sequenceOpen n = true
    · rw [if_pos hopen, if_pos ((sequenceOpen_iff v n).mp hopen)]
    · rw [if_neg hopen, if_neg (mt (sequenceOpen_iff v n).mpr hopen)]
      rfl

/-- O59's words for a commit that is asked for by its phase. -/
theorem committed_eq {challenged : State → Slot → State} (hchallenged : challenged = State.challengeProven)
    {recorded : State → Slot → CommitPhase → Bool → State}
    (hrecorded : recorded = fun v n phase followOn => v.onCommit n fun _ => ⟨phase, followOn⟩) (v : State) (n : Slot) :
    (if (v.slot n).state.isProven = false ∨ (v.slot n).pendingDebit = 0 then v
      else
        match (v.commit n).phase with
        | .idle => recorded (placed v n .debit) n .waiting (v.commit n).followOn
        | .waiting => placed v n .debit
        | .inFlight .. => recorded v n (v.commit n).phase true
        | .inDoubt .. => challenged (recorded v n (v.commit n).phase true) n) = v.askCommit .request n := by
  subst hplaced hchallenged hrecorded
  have hmark : v.onCommit n (fun _ => ⟨(v.commit n).phase, true⟩) = v.onCommit n fun c => { c with followOn := true } := rfl
  by_cases h : (v.slot n).state.isProven = false ∨ (v.slot n).pendingDebit = 0
  · rw [if_pos h, State.askCommit, if_neg]
    simpa [Nat.pos_iff_ne_zero, imp_iff_not_or, or_comm] using h
  · obtain ⟨hproven, hdebit⟩ := not_or.mp h
    rw [if_neg h, State.askCommit, if_pos (by simpa [Nat.pos_iff_ne_zero] using And.intro hproven hdebit)]
    unfold State.commitByPhase
    dsimp only
    rw [hmark]
    cases hphase : (v.commit n).phase with
    | idle =>
      rw [busPlace_ite]
      rfl
    | waiting | inFlight _ _ _ _ _ => rfl
    | inDoubt _ _ => exact if_pos (Bool.eq_true_of_not_eq_false hproven)

end

/-! ### PARK and RESUME -/

theorem holdsParking_iff (u : EventUnit) :
    u.holdsParking = true ↔ ∃ e ∈ u.pending, e.kind = .refillWarning ∨ e.kind = .commitInDoubt := by
  simp [EventUnit.holdsParking]

theorem beginParking_link (s : State) : s.beginParking.link = s.link :=
  (Moves.foldl (g := fun s n => s.askCommit .request n) (fun s n => moves_askCommit s _ n) allSlots _).link

/-- PARK is answered by the first line of its table that applies (R157, R175, R176). -/
theorem takeRequest_park (s : State) (r : Request) :
    s.takeRequest r (bare State.park) =
      if r.args ≠ [] then s.replied r s.popRequest .range
      else if s.swath.descriptor.isSome then s.replied r s.popRequest .busy
      else if ∃ e ∈ s.events.pending, e.kind = .refillWarning ∨ e.kind = .commitInDoubt then
        s.replied r s.popRequest .eventsPending
      else
        match s.decoder.park with
        | .parked => s.replied r s.popRequest .done
        | .parking _ => s.replied r s.popRequest .queued
        | .active => s.replied r s.popRequest.beginParking .queued := by
  by_cases hargs : r.args = []
  · have hpark : bare State.park s.popRequest r.args = s.popRequest.park := if_pos hargs
    rw [if_neg (not_not.mpr hargs)]
    split
    · exact takeRequest_replied (hpark.trans (if_pos ‹_›)) rfl
    · rename_i hopen
      have hclosed : s.popRequest.park = _ := if_neg hopen
      split
      · exact takeRequest_replied ((hpark.trans hclosed).trans (if_pos ((holdsParking_iff _).mpr ‹_›))) rfl
      · rename_i hevents
        have hstate := (hpark.trans hclosed).trans (if_neg (mt (holdsParking_iff _).mp hevents))
        rw [show s.popRequest.decoder.park = s.decoder.park from rfl] at hstate
        cases hp : s.decoder.park <;> rw [hp] at hstate
        · exact takeRequest_replied hstate (beginParking_link _)
        · exact takeRequest_replied hstate rfl
        · exact takeRequest_replied hstate rfl
  · rw [if_pos hargs]
    exact takeRequest_replied (if_neg hargs) rfl

/-- RESUME is answered by the park state (R157, R178). -/
theorem takeRequest_resume (s : State) (r : Request) :
    s.takeRequest r (bare State.resume) =
      if r.args ≠ [] then s.replied r s.popRequest .range
      else
        match s.decoder.park with
        | .active => s.replied r s.popRequest .state
        | .parking _ => s.replied r (s.popRequest.setPark .active) .done
        | .parked => s.replied r (allSlots.foldl State.challengeProven (s.popRequest.setPark .active)) .done := by
  by_cases hargs : r.args = []
  · have hresume : bare State.resume s.popRequest r.args = s.popRequest.resume := if_pos hargs
    rw [if_neg (not_not.mpr hargs)]
    rw [State.resume, show s.popRequest.decoder.park = s.decoder.park from rfl] at hresume
    cases hp : s.decoder.park <;> rw [hp] at hresume
    · exact takeRequest_replied hresume rfl
    · exact takeRequest_replied hresume rfl
    · exact takeRequest_replied hresume (Moves.foldl moves_challengeProven allSlots _).link
  · rw [if_pos hargs]
    exact takeRequest_replied (if_neg hargs) rfl

/-! ### Requests that no rule acts on -/

theorem row_of_unknown {r : Request} (h : r.code.toNat = 0 ∨ 13 < r.code.toNat) : r.row = .unknownRequest := by
  unfold Request.row
  split <;> try omega
  rfl

/-- An operation that is missing or above 4 is no operation of EVENTS (R155; log entry 7). -/
theorem unknown_operation {args : List Byte} (h : args = [] ∨ 4 < (byteAt args 0).toNat) :
    args.head? = none ∨ ∃ o, args.head? = some o ∧ 4 < o.toNat := by
  cases args with
  | nil => exact .inl rfl
  | cons o rest => exact .inr ⟨o, rfl, h.resolve_left nofun⟩

theorem actOnEvents_unknown {t : State} {args : List Byte} (h : args = [] ∨ 4 < (byteAt args 0).toNat) :
    t.actOnEvents args = refuse t .range := by
  rcases unknown_operation h with ho | ⟨o, ho, habove⟩
  · exact actOnEvents_none ho
  · exact actOnEvents_above ho habove

theorem row_of_unknown_operation {r : Request} (hc : r.code = 7#8) (h : r.args = [] ∨ 4 < (byteAt r.args 0).toNat) :
    r.row = .unknownRequest := by
  have hrow : r.row =
      match r.args.head? with
      | none => .unknownRequest
      | some operation =>
        match operation.toNat with
        | 0 => .eventsRead
        | 1 => .eventsClear
        | 2 => .eventsEnable
        | 3 => .noticesOn
        | 4 => .noticesOff
        | _ => .unknownRequest := by rw [Request.row, hc]; rfl
  rw [hrow]
  rcases unknown_operation h with ho | ⟨o, ho, habove⟩
  · rw [ho]
  · rw [ho]
    dsimp only
    split <;> try omega
    rfl

/-- Settles O59: each row takes the front request; the answers are those of `answerSlot`, `takeRequest_park`, `takeRequest_resume` and
the refusals of what no rule acts on. -/
theorem slotAndParkRequestsStartTheirWork : Obligations.SlotAndParkRequestsStartTheirWork := by
  intro r s hr ho u replied placed challenged recorded committed parked answer
  have hplaced : placed = State.busPlace := funext fun v => funext fun n => funext fun k => (busPlace_ite v n k).symm
  have hchallenged : challenged = State.challengeProven := funext fun v => funext fun n => challenged_eq hplaced v n
  have hcommitted : committed = fun v n => v.askCommit .request n :=
    funext fun v => funext fun n => committed_eq hplaced hchallenged rfl v n
  have hrow {i : Instr} {act : State → List Byte → State × Reply} {v : State} (hi : r.row = i) (hact : State.actOn r.code = act)
      (hv : s.takeRequest r act = v) : exec i s = .next v.finish.serve := by
    rw [← hi, exec_row_takes hr ho, hact, hv]
  have hreplied : replied = s.replied r := rfl
  have hanswer : answer = s.answerSlot r := rfl
  have hreauthenticate (v : State) (n : Slot) : v.reauthenticate n =
      if (v.slot n).state.isProven then queued (v.challengeProven n) else refuse v .state := by
    unfold State.reauthenticate State.challengeProven
    split <;> rfl
  refine ⟨fun hc => ?_, fun hc => ?_, fun hc => ?_, fun hc => ?_, fun hc => ?_, fun hc ha => ?_⟩
  · rw [hanswer, hchallenged]
    exact hrow (by rw [Request.row, hc]; rfl) (by rw [hc]; rfl)
      (takeRequest_slotArgument s r hreauthenticate fun v n => (moves_challengeProven v n).link)
  · rw [hanswer, hcommitted]
    exact hrow (by rw [Request.row, hc]; rfl) (by rw [hc]; rfl)
      (takeRequest_slotArgument s r (fun _ _ => rfl) fun v n => (moves_askCommit v _ n).link)
  · rw [hreplied, hcommitted]
    exact hrow (by rw [Request.row, hc]; rfl) (by rw [hc]; rfl) (takeRequest_park s r)
  · rw [hreplied, hchallenged]
    exact hrow (by rw [Request.row, hc]; rfl) (by rw [hc]; rfl) (takeRequest_resume s r)
  · have hcode : r.code.toNat = 0 ∨ 13 < r.code.toNat := hc.imp (fun h => by rw [h]; rfl) fun h => h
    exact hrow (row_of_unknown hcode) rfl (takeRequest_replied (actOn_unknown hcode) rfl)
  · have hact : s.popRequest.actOn r.code r.args = refuse s.popRequest .range := by
      rw [hc]
      exact actOnEvents_unknown ha
    exact hrow (row_of_unknown_operation hc ha) rfl (takeRequest_replied hact rfl)

end Sys2Proof.Machine
end

section
/-! PROOFS. The commit records, the DEBIT requests and the DEBIT on the line (O18's predicate, slot by slot): what an operation must
leave of them (`Quiet`), and the invariant with some slots left aside while an operation has not yet settled them (`State.Held`). -/

namespace Sys2Proof.Machine

/-! ### The DEBIT on the line -/

/-- The transaction in flight is the DEBIT of a slot, of an amount and nonce, and the slot has left since or not (R82, R88). -/
def Bus.HasDebit (b : Bus) (n : Slot) (d : Nat) (x : Word) (left : Bool) : Prop :=
  ∃ f, b.flight = some f ∧ f.kind = .debit ∧ f.slot = n ∧ f.amount = d ∧ f.nonce = x ∧ f.slotLeft = left

/-- How many DEBITs of a slot are queued. -/
def State.debitsQueued (s : State) (n : Slot) : Nat := s.bus.queue.count ⟨n, .debit⟩

theorem mem_queue_iff {s : State} {n : Slot} : (⟨n, .debit⟩ : BusRequest) ∈ s.bus.queue ↔ 0 < s.debitsQueued n :=
  List.count_pos_iff.symm

/-- A slot's record agrees with the bus, phase by phase. -/
theorem commitAgrees_iff {s : State} {n : Slot} :
    s.commitAgrees n ↔ ((s.commit n).phase = .waiting → 0 < s.debitsQueued n)
      ∧ (∀ d x pre serial c, (s.commit n).phase = .inFlight d x pre serial c →
          s.bus.HasDebit n d x false ∧ s.debitsQueued n = 0)
      ∧ ∀ d pre, (s.commit n).phase = .inDoubt d pre → s.debitsQueued n = 0 := by
  unfold State.commitAgrees
  simp only [mem_queue_iff, Nat.not_lt, Nat.le_zero]
  cases (s.commit n).phase with
  | idle => simp
  | waiting => simp
  | inFlight d x _ _ _ => exact ⟨fun h => ⟨nofun, fun _ _ _ _ _ e => by cases e; exact h, nofun⟩, fun h => h.2.1 _ _ _ _ _ rfl⟩
  | inDoubt _ _ => simp

/-- The phase in which a DEBIT is on the line (R121). -/
def CommitPhase.onLine (p : CommitPhase) : Prop := ∃ d x pre serial c, p = .inFlight d x pre serial c

/-- A slot's record agrees with the bus where its phase, its DEBIT on the line and its DEBITs queued are those of an agreeing one. -/
theorem commitAgrees_of {s t : State} {n : Slot} (hp : (t.commit n).phase = (s.commit n).phase)
    (hline : ∀ d x, (s.commit n).phase.onLine → s.bus.HasDebit n d x false → t.bus.HasDebit n d x false)
    (hqueue : t.debitsQueued n = s.debitsQueued n) (h : s.commitAgrees n) : t.commitAgrees n := by
  rw [commitAgrees_iff] at h ⊢
  obtain ⟨hwaiting, hflight, hdoubt⟩ := h
  rw [hp, hqueue]
  refine ⟨hwaiting, fun d x pre serial c e => ?_, hdoubt⟩
  obtain ⟨hdebit, hnone⟩ := hflight d x pre serial c e
  exact ⟨hline d x ⟨d, x, pre, serial, c, e⟩ hdebit, hnone⟩

theorem commitAgrees_of_idle {s : State} {n : Slot} (h : (s.commit n).phase = .idle) : s.commitAgrees n := by
  rw [commitAgrees_iff, h]
  exact ⟨nofun, nofun, nofun⟩

/-! ### What leaves the commits -/

/-- The records keep their phases, the orphan, the DEBIT on the line and the DEBITs queued stay; a bound slot stays bound, and a slot
whose state suits its binding has such a state after it. -/
structure Quiet (s t : State) : Prop where
  phase : ∀ n, (t.commit n).phase = (s.commit n).phase
  orphan : t.commits.orphan = s.commits.orphan
  line : ∀ n d x left, s.bus.HasDebit n d x left → t.bus.HasDebit n d x left
  queued : ∀ n, t.debitsQueued n = s.debitsQueued n
  bound : ∀ n, (s.slot n).binding.isSome = true → (t.slot n).binding.isSome = true
  allowed : ∀ n, (s.slot n).state.allowsBinding (s.slot n).binding.isSome →
    (t.slot n).state.allowsBinding (t.slot n).binding.isSome

theorem Quiet.refl (s : State) : Quiet s s := ⟨fun _ => rfl, rfl, fun _ _ _ _ => id, fun _ => rfl, fun _ => id, fun _ => id⟩

theorem Quiet.trans {s t u : State} (h : Quiet s t) (g : Quiet t u) : Quiet s u where
  phase n := (g.phase n).trans (h.phase n)
  orphan := g.orphan.trans h.orphan
  line n d x left := g.line n d x left ∘ h.line n d x left
  queued n := (g.queued n).trans (h.queued n)
  bound n := g.bound n ∘ h.bound n
  allowed n := g.allowed n ∘ h.allowed n

theorem Quiet.ite {s t u : State} {p : Prop} [Decidable p] (h : p → Quiet s t) (g : ¬p → Quiet s u) :
    Quiet s (if p then t else u) := by
  split
  · exact h ‹_›
  · exact g ‹_›

theorem Quiet.foldl {α : Type} {g : State → α → State} (hg : ∀ s a, Quiet s (g s a)) (l : List α) (s : State) :
    Quiet s (l.foldl g s) :=
  List.foldlRecOn l _ (.refl s) fun _ ht a _ => ht.trans (hg _ a)

/-- An operation that leaves the commits and the slots, and of the bus the transaction in flight and the queue. -/
theorem quiet_of_bus {s t : State} (hf : t.bus.flight = s.bus.flight) (hq : t.bus.queue = s.bus.queue)
    (hc : t.commits = s.commits := by rfl) (hl : t.slots = s.slots := by rfl) : Quiet s t where
  phase n := by rw [State.commit, hc]; rfl
  orphan := by rw [hc]
  line _ _ _ _ h := by unfold Bus.HasDebit; rwa [hf]
  queued n := by rw [State.debitsQueued, hq]; rfl
  bound n h := by rwa [State.slot, hl]
  allowed n h := by rwa [State.slot, hl]

theorem quiet_same {s t : State} (hb : t.bus = s.bus := by rfl) (hc : t.commits = s.commits := by rfl)
    (hl : t.slots = s.slots := by rfl) : Quiet s t :=
  quiet_of_bus (by rw [hb]) (by rw [hb]) hc hl

theorem quiet_of_supply {s t : State} (h : t.supply = s.supply) : Quiet s t :=
  quiet_same (congrArg State.Supply.bus h) (congrArg State.Supply.commits h) (congrArg State.Supply.slots h)

/-- An operation that changes one slot's record, and leaves the bus and the commits. -/
theorem quiet_of_changeAt {s t : State} {n : Slot} {f : SlotRecord → SlotRecord} (hb : t.bus = s.bus) (hc : t.commits = s.commits)
    (hl : t.slots = changeAt s.slots n f)
    (hbound : (s.slot n).binding.isSome = true → (f (s.slot n)).binding.isSome = true)
    (hallowed : (s.slot n).state.allowsBinding (s.slot n).binding.isSome →
      (f (s.slot n)).state.allowsBinding (f (s.slot n)).binding.isSome) : Quiet s t := by
  have hslot (m : Slot) : t.slot m = if m = n then f (s.slot n) else s.slot m := by
    split
    · rename_i h
      rw [h, slot_of_changeAt hl]
    · exact slot_of_changeAt_ne hl ‹_›
  refine ⟨fun m => by rw [State.commit, hc]; rfl, by rw [hc], fun _ _ _ _ h => hb ▸ h, fun m => by rw [State.debitsQueued, hb]; rfl,
    fun m => ?_, fun m => ?_⟩ <;> rw [hslot m]
  · split
    · rename_i h
      rw [h]
      exact hbound
    · exact id
  · split
    · rename_i h
      rw [h]
      exact hallowed
    · exact id

/-- A change of a slot's record that leaves its state and binding. -/
theorem quiet_slot (s : State) (n : Slot) (f : SlotRecord → SlotRecord) (hst : ∀ r, (f r).state = r.state := by intro r; rfl)
    (hb : ∀ r, (f r).binding = r.binding := by intro r; rfl) : Quiet s (s.onSlot n f) :=
  quiet_of_changeAt rfl rfl (State.onSlot_slots s n f) (by rw [hb]; exact id) (by rw [hst, hb]; exact id)

theorem commit_onCommit (s : State) (n : Slot) (f : CommitRecord → CommitRecord) : (s.onCommit n f).commit n = f (s.commit n) := by
  simp [State.commit, State.onCommit, changeAt]

theorem commit_onCommit_ne (s : State) {m n : Slot} (h : m ≠ n) (f : CommitRecord → CommitRecord) :
    (s.onCommit n f).commit m = s.commit m := by
  simp only [State.commit, State.onCommit, changeAt, Fin.getElem_fin]
  exact Vector.getElem_set_ne _ _ fun e => h (Fin.ext e).symm

/-- A change of the follow-on mark (R120). -/
theorem quiet_commit (s : State) (n : Slot) (f : CommitRecord → CommitRecord) (h : ∀ c, (f c).phase = c.phase := by intro c; rfl) :
    Quiet s (s.onCommit n f) := by
  refine ⟨fun m => ?_, rfl, fun _ _ _ _ => id, fun _ => rfl, fun _ => id, fun _ => id⟩
  by_cases hm : m = n
  · rw [hm, commit_onCommit, h]
  · rw [commit_onCommit_ne s hm]

/-! ### The invariant -/

/-- O18's predicate once start-up is complete, the records of the slots `q` aside; with it, that each slot's state suits its binding
(O15) and that no DEBIT is queued twice (O12). -/
structure State.Held (q : Slot → Prop) (s : State) : Prop where
  agrees : ∀ n, ¬ q n → s.commitAgrees n ∧ ((s.slot n).binding = none → (s.commit n).phase = .idle)
  allowed : ∀ n, (s.slot n).state.allowsBinding (s.slot n).binding.isSome
  single : ∀ n, s.debitsQueued n ≤ 1
  orphan : ∀ o, s.commits.orphan = some o → s.bus.HasDebit o.slot o.amount o.nonce true

/-- No slot's record is left aside. -/
def State.DebitsHeld (s : State) : Prop := s.Held fun _ => False

theorem Quiet.held {s t : State} (h : Quiet s t) {q : Slot → Prop} (hs : s.Held q) : t.Held q where
  agrees n hn := by
    obtain ⟨hagrees, hidle⟩ := hs.agrees n hn
    refine ⟨commitAgrees_of (h.phase n) (fun d x _ => h.line n d x false) (h.queued n) hagrees, fun hb => ?_⟩
    rw [h.phase n]
    refine hidle (Option.not_isSome_iff_eq_none.mp fun hbound => ?_)
    have := h.bound n hbound
    rw [hb] at this
    cases this
  allowed n := h.allowed n (hs.allowed n)
  single n := h.queued n ▸ hs.single n
  orphan o ho := h.line _ _ _ _ (hs.orphan o (h.orphan ▸ ho))

section
variable {s t : State} {q : Slot → Prop} {n : Slot}

theorem State.DebitsHeld.agrees (hs : s.DebitsHeld) (n : Slot) :
    s.commitAgrees n ∧ ((s.slot n).binding = none → (s.commit n).phase = .idle) :=
  State.Held.agrees hs n id

theorem State.DebitsHeld.but (hs : s.DebitsHeld) (q : Slot → Prop) : s.Held q := { hs with agrees := fun n _ => hs.agrees n }

/-- The slot left aside is found to agree. -/
theorem State.Held.whole (hs : s.Held (· = n)) (hn : s.commitAgrees n ∧ ((s.slot n).binding = none → (s.commit n).phase = .idle)) :
    s.DebitsHeld := by
  refine { hs with agrees := fun m _ => ?_ }
  by_cases hm : m = n
  · exact hm ▸ hn
  · exact hs.agrees m hm

/-- The record of the slot left aside may change. -/
theorem State.Held.onCommit (hs : s.Held (· = n)) (f : CommitRecord → CommitRecord) : (s.onCommit n f).Held (· = n) where
  agrees m hm := by
    obtain ⟨hagrees, hidle⟩ := hs.agrees m hm
    have hp : ((s.onCommit n f).commit m).phase = (s.commit m).phase := by rw [commit_onCommit_ne s hm]
    exact ⟨commitAgrees_of hp (fun _ _ _ => id) rfl hagrees, fun hb => hp.trans (hidle hb)⟩
  allowed := hs.allowed
  single := hs.single
  orphan := hs.orphan

/-- A record that goes IDLE needs nothing of the bus. -/
theorem State.Held.idle (hs : s.Held (· = n)) {f : CommitRecord → CommitRecord} (hf : (f (s.commit n)).phase = .idle) :
    (s.onCommit n f).DebitsHeld := by
  have hidle : ((s.onCommit n f).commit n).phase = .idle := by rw [commit_onCommit, hf]
  exact (hs.onCommit f).whole ⟨commitAgrees_of_idle hidle, fun _ => hidle⟩

theorem State.Held.commitIdle (hs : s.Held (· = n)) : (s.commitIdle n).DebitsHeld := hs.idle rfl

/-- A slot whose state is proven is bound (R91). -/
theorem State.Held.bound_of_proven (hs : s.Held q) (h : (s.slot n).state.isProven = true) : (s.slot n).binding ≠ none := by
  intro hb
  have := hs.allowed n
  rw [hb] at this
  revert h this
  cases (s.slot n).state <;> simp [SlotState.isProven, SlotState.allowsBinding]

/-- With the line free, no record is IN FLIGHT and there is no orphan. -/
theorem State.DebitsHeld.line_free (hs : s.DebitsHeld) (hf : s.bus.flight = none) :
    (∀ n, ¬ (s.commit n).phase.onLine) ∧ s.commits.orphan = none := by
  have hnone {n d x left} : ¬ s.bus.HasDebit n d x left := by
    rintro ⟨f, h, _⟩
    rw [hf] at h
    cases h
  refine ⟨?_, Option.eq_none_iff_forall_ne_some.mpr fun o ho => hnone (hs.orphan o ho)⟩
  rintro n ⟨d, x, pre, serial, c, hp⟩
  obtain ⟨_, hflight, _⟩ := commitAgrees_iff.mp (hs.agrees n).1
  exact hnone (hflight d x pre serial c hp).1

/-- Records whose DEBIT is not on the line, and no orphan, need nothing of the transaction in flight. -/
theorem State.DebitsHeld.aground (hs : s.DebitsHeld) (hp : ∀ m, ¬ q m → (t.commit m).phase = (s.commit m).phase)
    (hl : t.slots = s.slots) (hqueue : ∀ m, ¬ q m → t.debitsQueued m = s.debitsQueued m) (hsingle : ∀ m, t.debitsQueued m ≤ 1)
    (ho : t.commits.orphan = none) (hline : ∀ m, (s.commit m).phase.onLine → q m) : t.Held q where
  agrees m hm := by
    obtain ⟨hagrees, hidle⟩ := hs.agrees m
    refine ⟨?_, fun hb => (hp m hm).trans (hidle (by rwa [State.slot, hl] at hb))⟩
    exact commitAgrees_of (hp m hm) (fun _ _ h => absurd (hline m h) hm) (hqueue m hm) hagrees
  allowed m := by
    have := hs.allowed m
    rwa [State.slot, hl]
  single := hsingle
  orphan o h := by
    rw [ho] at h
    cases h

end

end Sys2Proof.Machine
end

section
/-! PROOFS. The operations that leave the commits and their DEBITs (`Quiet`): those of every unit but the asking for a commit, the settling
of a DEBIT, the purge of the queue and an unbinding. -/

namespace Sys2Proof.Machine

/-! ### Gating and metering -/

theorem State.Judges.commits {s t : State} (h : s.Judges t) : t.commits = s.commits := by
  obtain ⟨_, _, _, rfl, _⟩ := h
  rfl

theorem quiet_reEvaluate (s : State) (n : Slot) : Quiet s (s.reEvaluate n) :=
  quiet_same (judges_reEvaluate s n).bus (judges_reEvaluate s n).commits (reEvaluate_slots s n)

theorem quiet_recompute (s : State) (n : Slot) : Quiet s (s.recompute n) :=
  quiet_of_changeAt (judges_recompute s n).bus (judges_recompute s n).commits (recompute_slots s n) id id

/-- A slot takes a state that suits its binding. -/
theorem quiet_changeState {s : State} {n : Slot} {st : SlotState}
    (h : (s.slot n).state.allowsBinding (s.slot n).binding.isSome → st.allowsBinding (s.slot n).binding.isSome) :
    Quiet s (s.changeState n st) :=
  quiet_of_changeAt (judges_changeState s n st).bus (judges_changeState s n st).commits (changeState_slots s n st) id h

theorem quiet_meterInto (s : State) (lines : List RecordLine) (n : Slot) : Quiet s (s.meterInto lines n) := by
  unfold State.meterInto
  exact Quiet.trans (Quiet.trans (t := s.setResidue n _) quiet_same (quiet_slot _ n _)) (quiet_reEvaluate _ n)

theorem quiet_meterGroup (record : List RecordLine) (s : State) (n : Slot) : Quiet s (State.meterGroup record s n) := by
  unfold State.meterGroup
  exact .ite (fun _ => .refl s) fun _ => (quiet_meterInto s _ n).trans (quiet_recompute _ n)

theorem quiet_clearDrops (s : State) (n : Slot) : Quiet s (s.clearDrops n) := by
  unfold State.clearDrops
  exact quiet_same (State.onSwath_bus s _) (State.onSwath_commits s _) (State.onSwath_slots s _)

theorem quiet_interimMetering (s : State) (n : Slot) : Quiet s (s.interimMetering n) := by
  unfold State.interimMetering
  split
  · exact (quiet_meterInto s _ n).trans (quiet_clearDrops _ n)
  · exact .refl s

/-! ### Asking for supply work -/

theorem debitsQueued_busPlace_ne (s : State) {n m : Slot} {k : BusKind} (h : m ≠ n ∨ k ≠ .debit) :
    (s.busPlace n k).debitsQueued m = s.debitsQueued m := by
  have hne : (⟨n, k⟩ : BusRequest) ≠ ⟨m, .debit⟩ := by
    rintro ⟨⟩
    rcases h with h | h <;> exact h rfl
  unfold State.busPlace
  split
  · rfl
  · simp [State.debitsQueued, State.onBus, List.count_append, hne]

theorem busPlace_flight (s : State) (n : Slot) (k : BusKind) : (s.busPlace n k).bus.flight = s.bus.flight := by
  obtain ⟨q, h⟩ := busPlace_eq s n k
  rw [h]
  rfl

theorem busPlace_commits (s : State) (n : Slot) (k : BusKind) : (s.busPlace n k).commits = s.commits := by
  obtain ⟨q, h⟩ := busPlace_eq s n k
  rw [h]
  rfl

/-- A request that is no DEBIT is placed (R80). -/
theorem quiet_place (s : State) (n : Slot) {k : BusKind} (hk : k ≠ .debit) : Quiet s (s.busPlace n k) where
  phase m := by rw [State.commit, busPlace_commits]; rfl
  orphan := by rw [busPlace_commits]
  line m d x left h := by unfold Bus.HasDebit; rwa [busPlace_flight]
  queued m := debitsQueued_busPlace_ne s (.inr hk)
  bound m h := by rwa [State.slot, busPlace_slots]
  allowed m h := by rwa [State.slot, busPlace_slots]

theorem quiet_askChallenge (s : State) (n : Slot) : Quiet s (s.askChallenge n) := by
  have place (t : State) : Quiet t (t.busPlace n .challenge) := quiet_place t n nofun
  have ask : Quiet s (if s.sequenceOpen n then s.busPlace n .challenge
      else (s.onSlot n fun r => { r with allowance := s.tables.aRun, attempts := 0 }).busPlace n .challenge) :=
    .ite (fun _ => place s) fun _ => (quiet_slot s n _).trans (place _)
  unfold State.askChallenge
  split
  · exact ask
  · exact ask
  · exact place s
  · exact .refl s

theorem quiet_countDown (s : State) (n : Slot) : Quiet s (s.countDown n) := by
  unfold State.countDown
  refine .ite (fun _ => ?_) fun _ => .refl s
  exact .ite (fun _ => (quiet_slot s n _).trans (quiet_askChallenge _ n)) fun _ => quiet_slot s n _

/-! ### The Integrity Monitor -/

theorem quiet_raiseSlot (s : State) (k : EventKind) (n : Slot) : Quiet s (s.raiseSlot k n) := quiet_same

theorem quiet_entry (s : State) (serial : Word) (f : Entry → Entry) : Quiet s (s.onEntry serial f) := quiet_same

theorem quiet_boundEntry (s : State) (n : Slot) (f : Entry → Entry) : Quiet s (s.onBoundEntry n f) := by
  obtain ⟨g, h⟩ := onBoundEntry_eq s n f
  rw [h]
  exact quiet_same

theorem quiet_setMark (s : State) (serial : Word) : Quiet s (s.setMark serial) := by
  unfold State.setMark
  dsimp only
  split
  · refine .ite (fun _ => ?_) fun _ => .refl s
    split
    · refine Quiet.trans (.ite (fun hg => ?_) fun _ => quiet_entry s serial _) (quiet_raiseSlot _ _ _)
      refine (quiet_entry s serial _).trans (quiet_changeState fun h => ?_)
      rwa [show ((s.onEntry serial _).slot _).state = .genuine from hg] at h
    · exact quiet_entry s serial _
  · exact .refl s

theorem quiet_clearMark (s : State) (serial : Word) : Quiet s (s.clearMark serial) := by
  unfold State.clearMark
  dsimp only
  split
  · refine .ite (fun _ => ?_) fun _ => .refl s
    split
    · refine .ite (fun hg => ?_) fun _ => quiet_entry s serial _
      refine (quiet_entry s serial _).trans (quiet_changeState fun h => ?_)
      rwa [show ((s.onEntry serial _).slot _).state = .suspect from hg] at h
    · exact quiet_entry s serial _
  · exact .refl s

theorem quiet_settleMark (s : State) (serial : Word) : Quiet s (s.settleMark serial) :=
  (quiet_setMark s serial).trans (quiet_clearMark _ serial)

theorem quiet_addWeight (s : State) (serial : Word) (weight : Nat) : Quiet s (s.addWeight serial weight) :=
  .ite (fun _ => .refl s) fun _ => (quiet_entry s serial _).trans (quiet_setMark _ serial)

theorem quiet_settingsLoaded (s : State) : Quiet s s.settingsLoaded :=
  (Quiet.foldl quiet_reEvaluate allSlots s).trans
    (Quiet.foldl (g := fun t (e : Entry) => t.settleMark e.serial) (fun t e => quiet_settleMark t e.serial) _ _)

theorem quiet_bindingChecks (s : State) (found : Option Entry) (id : Identity) (ceiling : Nat) :
    Quiet s (s.bindingChecks found id ceiling) := by
  unfold State.bindingChecks
  dsimp only
  refine Quiet.trans ?_ (.ite (fun _ => quiet_addWeight _ _ _) fun _ => .refl _)
  split
  · refine .ite (fun _ => ?_) fun _ => .ite (fun _ => quiet_addWeight s _ _) fun _ => .refl s
    exact .ite (fun _ => quiet_addWeight s _ _) fun _ => quiet_entry s _ _
  · exact .refl s

theorem quiet_endBinding (s : State) (serial : Word) (n : Slot) : Quiet s (s.endBinding serial n) := by
  unfold State.endBinding
  dsimp only
  refine (quiet_setMark s serial).trans ?_
  split
  · exact .ite (fun _ => quiet_raiseSlot _ _ _) fun _ => .refl _
  · exact .refl _

theorem quiet_checkLevel (s : State) (n : Slot) (b : Binding) (e : Entry) (first : Bool) (reported : Nat) :
    Quiet s (s.checkLevel n b e first reported).2 := by
  unfold State.checkLevel
  dsimp only
  split
  · exact (quiet_entry s _ _).trans (quiet_slot _ n _)
  · have level (l : Nat) : Quiet s (s.onSlot n fun r => { r with level := some l }) := quiet_slot s n _
    have raised (l : Nat) : Quiet s (if first then (s.onSlot n fun r => { r with level := some l }).onEntry e.serial
        (raiseGeneration b.identity.generation) else s.onSlot n fun r => { r with level := some l }) :=
      .ite (fun _ => (level l).trans (quiet_entry _ _ _)) fun _ => level l
    exact .ite (fun _ => (raised _).trans (quiet_raiseSlot _ _ _)) fun _ => raised _

theorem quiet_loadCarried (s : State) (n : Slot) (serial : Word) : Quiet s (s.loadCarried n serial) := by
  unfold State.loadCarried
  exact ((quiet_slot s n _).trans (quiet_entry _ _ _)).trans (quiet_reEvaluate _ n)

theorem quiet_followLevel (s : State) (n : Slot) : Quiet s (s.followLevel n) := by
  unfold State.followLevel
  split
  · exact quiet_boundEntry s n _
  · exact .refl s

theorem quiet_markExhausted (s : State) (n : Slot) : Quiet s (s.markExhausted n) :=
  .ite (fun _ => quiet_boundEntry s n _) fun _ => .refl s

theorem quiet_adjustCount (s : State) (serial : Word) (finding : LevelFinding) : Quiet s (s.adjustCount serial finding) :=
  .ite (fun _ => quiet_entry s serial _) fun _ => quiet_entry s serial _

theorem quiet_judgeLevel (s : State) (n : Slot) (reported : Nat) : Quiet s (s.judgeLevel n reported) := by
  unfold State.judgeLevel
  dsimp only
  split
  · exact .refl s
  · split
    · exact .refl s
    · refine Quiet.trans (Quiet.trans (Quiet.trans ?_ (quiet_adjustCount _ _ _)) (quiet_settleMark _ _)) (quiet_recompute _ n)
      refine Quiet.trans (Quiet.trans ?_ (quiet_followLevel _ n)) (quiet_markExhausted _ n)
      exact (quiet_checkLevel s n _ _ _ _).trans (.ite (fun _ => quiet_loadCarried _ n _) fun _ => .refl _)

theorem quiet_checkConfirmation (s : State) (n : Slot) (newLevel : Nat) : Quiet s (s.checkConfirmation n newLevel) := by
  unfold State.checkConfirmation
  split
  · exact .ite (fun _ => quiet_raiseSlot s _ _) fun _ => .refl s
  · exact .refl s

theorem quiet_lowerAccount (s : State) (n : Slot) (d : Nat) : Quiet s (s.lowerAccount n d) := by
  unfold State.lowerAccount
  exact (((quiet_slot s n _).trans (quiet_followLevel _ n)).trans (quiet_markExhausted _ n)).trans (quiet_reEvaluate _ n)

/-! ### The Authentication Unit -/

theorem quiet_retry (s : State) (n : Slot) {k : BusKind} (hk : k ≠ .debit) : Quiet s (s.retry n k) := by
  unfold State.retry
  split
  · exact quiet_askChallenge s n
  · exact quiet_place s n hk

theorem quiet_holdOff (s : State) (n : Slot) : Quiet s (s.holdOff n) := by
  have hheld : Quiet s (s.onSlot n (s.heldOff n)) := quiet_slot s n _
  exact (hheld.trans (quiet_changeState (st := .holdoff) fun _ => trivial)).trans (quiet_raiseSlot _ _ _)

theorem quiet_reject {s : State} {n : Slot} {st : SlotState}
    (h : (s.slot n).state.allowsBinding (s.slot n).binding.isSome → st.allowsBinding (s.slot n).binding.isSome) :
    Quiet s (s.reject n st) :=
  (quiet_changeState h).trans (quiet_raiseSlot _ _ _)

/-- A slot in IDENTIFYING is bound (R99). -/
theorem quiet_bind {s : State} {n : Slot} (h : (s.slot n).state = .identifying) (id : Identity) (c : Fin 16) :
    Quiet s (s.bind n id c) := by
  have hbound : Quiet s (s.bindTo n id c) := by
    refine quiet_of_changeAt rfl rfl (bindTo_slots s n id c) (fun _ => rfl) fun _ => ?_
    rw [show ((s.slot n).bound ⟨id, c⟩).state = .identifying from h]
    trivial
  exact (hbound.trans (quiet_bindingChecks _ _ _ _)).trans (quiet_endBinding _ _ n)

/-- The slot is bound: each state that a binding may lead to allows it (R100). -/
theorem quiet_settleBinding {s : State} {n : Slot} (h : (s.slot n).binding.isSome = true) (id : Identity) (c : Fin 16) (reused : Bool) :
    Quiet s (s.settleBinding n id c reused) :=
  .ite (fun _ => quiet_reject fun _ => h) fun _ => .ite (fun _ => quiet_reject fun _ => h) fun _ =>
    (quiet_changeState (st := .authenticating) fun _ => h).trans (quiet_askChallenge _ n)

theorem bind_bound (s : State) (n : Slot) (id : Identity) (c : Fin 16) : ((s.bind n id c).slot n).binding.isSome = true :=
  ((quiet_bindingChecks _ _ _ _).trans (quiet_endBinding _ _ n)).bound n (by
    rw [slot_of_changeAt (bindTo_slots s n id c)]
    rfl)

theorem quiet_identification {s : State} {n : Slot} (h : (s.slot n).state = .identifying) (hb : (s.slot n).binding = none)
    (id : Identity) : Quiet s (s.identification n id) := by
  have hcleared : Quiet s (s.onSlot n fun r => { r with attempts := 0 }) := quiet_slot s n _
  have hforeign : Quiet s ((s.onSlot n fun r => { r with attempts := 0 }).reject n .foreign) := by
    refine hcleared.trans (quiet_reject fun _ => ?_)
    rw [slot_onSlot]
    exact congrArg Option.isSome hb
  unfold State.identification
  split
  · exact hforeign
  · refine .ite (fun _ => hforeign) fun _ => ?_
    refine (hcleared.trans (quiet_bind ?_ id _)).trans (quiet_settleBinding (bind_bound _ n id _) id _ _)
    rw [slot_onSlot]
    exact h

/-- The identity found again leads a bound slot to AUTHENTICATING (R101). -/
theorem quiet_reidentified {s : State} {n : Slot} (h : (s.slot n).binding.isSome = true) :
    Quiet s (((s.onSlot n fun r => { r with attempts := 0 }).changeState n .authenticating).askChallenge n) := by
  refine ((quiet_slot s n _).trans (quiet_changeState fun _ => ?_)).trans (quiet_askChallenge _ n)
  rw [slot_onSlot]
  exact h

theorem quiet_enterProven (s : State) (n : Slot) : Quiet s (s.enterProven n) := by
  refine .ite (fun h => ?_) fun _ => .refl s
  have hproven : Quiet s ((s.raiseSlot .genuine n).onSlot n fun r => { r with proven := true }) :=
    (quiet_raiseSlot s _ n).trans (quiet_slot _ n _)
  have hstate : (((s.raiseSlot .genuine n).onSlot n fun r => { r with proven := true }).slot n).state = .authenticating := by
    rw [slot_onSlot]
    exact h
  refine hproven.trans (quiet_changeState fun ha => ?_)
  rw [hstate] at ha
  split <;> exact ha

/-! ### Presence and the class table -/

theorem quiet_setWatch (s : State) (n : Slot) (w : Watch) : Quiet s (s.setWatch n w) := quiet_of_bus rfl rfl

theorem quiet_arrive (s : State) (n : Slot) : Quiet s (s.arrive n) := by
  have hwatched := quiet_setWatch s n (.arriving (some s.tables.insertSettle))
  unfold State.arrive
  refine .ite (fun he => ?_) fun _ => hwatched
  have hsettling := (hwatched.trans (quiet_changeState (st := .settling) fun h => by
    rwa [show ((s.setWatch n _).slot n).state = .empty from he] at h)).trans (quiet_raiseSlot _ .inserted n)
  exact .ite (fun _ => hsettling.trans (quiet_clearDrops _ n)) fun _ => hsettling

theorem quiet_startArrival (s : State) (n : Slot) : Quiet s (s.startArrival n) := by
  unfold State.startArrival
  split
  · exact .ite (fun _ => quiet_arrive s n) fun _ => .refl s
  · exact .refl s

theorem quiet_linePresent (s : State) (n : Slot) : Quiet s (s.linePresent n) := by
  unfold State.linePresent
  split
  · exact quiet_arrive s n
  · exact quiet_setWatch s n _
  · exact quiet_setWatch s n _
  · exact .refl s

theorem quiet_lineAbsent (s : State) (n : Slot) : Quiet s (s.lineAbsent n) := by
  unfold State.lineAbsent
  split
  · exact quiet_setWatch s n _
  · exact quiet_setWatch s n _
  · exact .refl s

theorem quiet_identify (s : State) (n : Slot) (allowance : Nat) : Quiet s (s.identify n allowance) :=
  ((quiet_changeState (st := .identifying) fun _ => trivial).trans (quiet_slot _ n _)).trans (quiet_place _ n nofun)

theorem quiet_seat (s : State) (n : Slot) : Quiet s (s.seat n) :=
  have hwatched := quiet_setWatch s n .seated
  .ite (fun _ => hwatched.trans (quiet_identify _ n _)) fun _ => hwatched

theorem quiet_endHoldoff (s : State) (n : Slot) : Quiet s (s.endHoldoff n) := (quiet_slot s n _).trans (quiet_identify _ n _)

theorem quiet_classLoaded (first written : Nat) (s : State) (n : Slot) : Quiet s (State.classLoaded first written s n) := by
  unfold State.classLoaded
  split
  · refine .ite (fun _ => ?_) fun _ => .refl s
    exact (((quiet_slot s n _).trans (quiet_followLevel _ n)).trans (quiet_recompute _ n)).trans (quiet_reEvaluate _ n)
  · exact .refl s

theorem quiet_enableSlot (s : State) (n : Slot) : Quiet s (s.enableSlot n) :=
  have hwatched := quiet_setWatch s n .quiet
  .ite (fun _ => hwatched.trans (quiet_arrive _ n)) fun _ => hwatched

end Sys2Proof.Machine
end

section
/-! PROOFS. The operations that settle commits keep O18's predicate: the asking for a commit (R118 to R120), the departure of a cartridge
(R88, R95, R128), the outcome of a DEBIT (R123 to R129), challenges and failures, and the taking of a request (R82, R121). -/

namespace Sys2Proof.Machine

/-! ### Asking for a commit -/

/-- An IDLE record that goes WAITING has its DEBIT queued (R120). -/
theorem waiting_held {s : State} (hs : s.DebitsHeld) {n : Slot} (hb : (s.slot n).binding ≠ none) :
    ((s.busPlace n .debit).onCommit n fun c => { c with phase := .waiting }).DebitsHeld := by
  have hqueued : 0 < (s.busPlace n .debit).debitsQueued n ∧ (s.busPlace n .debit).debitsQueued n ≤ 1 := by
    unfold State.busPlace
    split
    · exact ⟨mem_queue_iff.mp ‹_›, hs.single n⟩
    · rename_i h
      simp [State.debitsQueued, State.onBus, List.count_append, List.count_eq_zero.mpr h]
  have hplaced : (s.busPlace n .debit).Held (· = n) := by
    refine ⟨fun m hm => ?_, fun m => ?_, fun m => ?_, fun o ho => ?_⟩
    · obtain ⟨hagrees, hidle⟩ := hs.agrees m
      have hphase : ((s.busPlace n .debit).commit m).phase = (s.commit m).phase := by
        rw [State.commit, busPlace_commits]
        rfl
      refine ⟨commitAgrees_of hphase (fun d x _ h => ?_) (debitsQueued_busPlace_ne s (.inl hm)) hagrees, fun hnone => ?_⟩
      · unfold Bus.HasDebit
        rwa [busPlace_flight]
      · rw [State.slot, busPlace_slots] at hnone
        exact hphase.trans (hidle hnone)
    · rw [State.slot, busPlace_slots]
      exact hs.allowed m
    · by_cases hm : m = n
      · exact hm ▸ hqueued.2
      · exact debitsQueued_busPlace_ne s (.inl hm) ▸ hs.single m
    · rw [busPlace_commits] at ho
      unfold Bus.HasDebit
      rw [busPlace_flight]
      exact hs.orphan o ho
  have hwaiting : (((s.busPlace n .debit).onCommit n fun c => { c with phase := .waiting }).commit n).phase = .waiting := by
    rw [commit_onCommit]
  refine (hplaced.onCommit _).whole ⟨?_, fun hnone => ?_⟩
  · rw [commitAgrees_iff, hwaiting]
    exact ⟨fun _ => hqueued.1, nofun, nofun⟩
  · rw [State.slot, State.onCommit_slots, busPlace_slots] at hnone
    exact absurd hnone hb

theorem askCommit_held {s : State} (hs : s.DebitsHeld) (cause : CommitCause) (n : Slot) : (s.askCommit cause n).DebitsHeld := by
  unfold State.askCommit
  split
  · rename_i hask
    obtain ⟨hproven, _⟩ := Bool.and_eq_true_iff.mp hask
    unfold State.commitByPhase
    split
    · exact waiting_held hs (hs.bound_of_proven hproven)
    · rename_i hwaiting
      obtain ⟨hqueued, _⟩ := commitAgrees_iff.mp (hs.agrees n).1
      rw [State.busPlace, if_pos (mem_queue_iff.mpr (hqueued hwaiting))]
      exact hs
    · exact (quiet_commit s n _).held hs
    · exact hs
    · exact ((quiet_commit s n _).trans (quiet_askChallenge _ n)).held hs
    · exact hs
  · exact hs

theorem recheck_held {s : State} (hs : s.DebitsHeld) (n : Slot) : (s.recheck n).DebitsHeld := by
  unfold State.recheck
  split
  · exact askCommit_held hs .close n
  · exact hs

theorem settleEnd_held {s : State} (hs : s.DebitsHeld) (n : Slot) : (s.settleEnd n).DebitsHeld := by
  have hchecked := recheck_held hs n
  unfold State.settleEnd
  generalize s.recheck n = t at hchecked ⊢
  have hcleared : (t.onCommit n fun c => { c with followOn := false }).DebitsHeld := (quiet_commit t n _).held hchecked
  unfold State.actFollowOn
  dsimp only
  split
  · split
    · exact hcleared
    · exact askCommit_held hcleared .request n
  · exact hchecked

theorem handOver_held {s : State} (hs : s.DebitsHeld) (d : Descriptor) : (s.handOver d).DebitsHeld := by
  have hmetered : (s.meterRecord (closingRecord d s.tables s.swath.drops)).DebitsHeld :=
    (Quiet.foldl (quiet_meterGroup _) allSlots s).held hs
  have hchecked := List.foldlRecOn (motive := State.DebitsHeld) allSlots State.recheck hmetered fun _ ht n _ => recheck_held ht n
  unfold State.handOver
  dsimp only
  exact (Quiet.foldl quiet_countDown allSlots _).held hchecked

/-! ### The departure of a cartridge -/

/-- A DEBIT of the slot that is on the line is that of a slot that has left. -/
def State.departs (s : State) (n : Slot) : Prop :=
  ∀ d x pre serial c, (s.commit n).phase = .inFlight d x pre serial c → s.bus.HasDebit n d x true

theorem Quiet.departs {s t : State} (h : Quiet s t) {n : Slot} (hs : s.departs n) : t.departs n :=
  fun d x pre serial c hp => h.line n d x true (hs d x pre serial c ((h.phase n).symm.trans hp))

theorem departs_of_line_free {s : State} (hs : s.DebitsHeld) (hf : s.bus.flight = none) (n : Slot) : s.departs n :=
  fun d x pre serial c hp => absurd ⟨d, x, pre, serial, c, hp⟩ ((hs.line_free hf).1 n)

/-- Step 2 of an unbinding: the record goes IDLE, and one IN FLIGHT becomes the orphan (R128). -/
theorem unbindCommit_commits (s : State) (n : Slot) :
    ∃ o, (s.unbindCommit n).commits = ⟨changeAt s.commits.records n fun _ => ⟨.idle, false⟩, o⟩
      ∧ (o = s.commits.orphan ∨ ∃ d x pre serial c, (s.commit n).phase = .inFlight d x pre serial c ∧ o = some ⟨n, d, x, pre, serial, c⟩) := by
  have bound (f : Entry → Entry) : (s.onBoundEntry n f).commits = s.commits := by
    obtain ⟨g, h⟩ := onBoundEntry_eq s n f
    rw [h]
    rfl
  unfold State.unbindCommit
  dsimp only
  split
  · rename_i d x pre serial c hp
    exact ⟨_, by rw [State.onCommit_commits, State.setOrphan_commits, bound], .inr ⟨d, x, pre, serial, c, hp, rfl⟩⟩
  · exact ⟨_, by rw [State.onCommit_commits, bound], .inl rfl⟩
  · exact ⟨_, rfl, .inl rfl⟩

/-- What an unbinding makes of the commits: the slot's record is IDLE, and its DEBIT on the line the orphan (R95, R128). -/
theorem unbind_commits {s : State} {n : Slot} (hidle : (s.slot n).binding = none → (s.commit n).phase = .idle) (st : SlotState) :
    ((s.unbind n st).commit n).phase = .idle ∧ (∀ m, m ≠ n → (s.unbind n st).commit m = s.commit m)
      ∧ ((s.unbind n st).commits.orphan = s.commits.orphan
        ∨ ∃ d x pre serial c, (s.commit n).phase = .inFlight d x pre serial c
          ∧ (s.unbind n st).commits.orphan = some ⟨n, d, x, pre, serial, c⟩) := by
  have hmetered : (s.interimMetering n).commits = s.commits := by
    unfold State.interimMetering State.clearDrops
    split
    · exact (State.onSwath_commits _ _).trans (judges_reEvaluate _ n).commits
    · rfl
  have hbinding : ((s.interimMetering n).slot n).binding = (s.slot n).binding := by
    obtain ⟨f, h⟩ := interimMetering_slots s n
    rw [slot_of_changeAt h]
  have hcommits : (s.unbind n st).commits
      = (if ((s.interimMetering n).slot n).binding.isSome then (s.interimMetering n).unbindCommit n else s.interimMetering n).commits := by
    unfold State.unbind
    dsimp only
    rw [(judges_changeState _ n st).commits, State.clearAccount, State.onSlot_commits, State.setResidue_commits]
    split
    · obtain ⟨f, h⟩ := writeAccount_eq ((s.interimMetering n).unbindCommit n) n
      rw [h]
      rfl
    · rfl
  rw [hbinding] at hcommits
  unfold State.commit at hidle ⊢
  split at hcommits
  · obtain ⟨o, ho, horphan⟩ := unbindCommit_commits (s.interimMetering n) n
    rw [State.commit, hmetered] at horphan
    rw [hcommits, ho, hmetered]
    refine ⟨by simp [changeAt], fun m hm => ?_, horphan⟩
    simp only [changeAt, Fin.getElem_fin]
    exact Vector.getElem_set_ne _ _ fun e => hm (Fin.ext e).symm
  · rename_i h
    rw [hcommits, hmetered]
    exact ⟨hidle (Option.not_isSome_iff_eq_none.mp h), fun _ _ => rfl, .inl rfl⟩

/-- A slot that leaves its cartridge leaves no record behind but the orphan (R95, R128). -/
theorem unbind_held {s : State} {n : Slot} (hs : s.Held (· = n)) (hd : s.departs n)
    (hidle : (s.slot n).binding = none → (s.commit n).phase = .idle) {st : SlotState} (hst : st.allowsBinding false) :
    (s.unbind n st).DebitsHeld := by
  have hslots := unbind_slots s n st
  have hbus := unbind_bus s n st
  obtain ⟨hphase, hothers, horphan⟩ := unbind_commits hidle st
  have hqueued (m : Slot) : (s.unbind n st).debitsQueued m = s.debitsQueued m := by rw [State.debitsQueued, hbus]; rfl
  refine State.Held.whole (n := n) ⟨fun m hm => ?_, fun m => ?_, fun m => hqueued m ▸ hs.single m, fun o ho => ?_⟩
    ⟨commitAgrees_of_idle hphase, fun _ => hphase⟩
  · obtain ⟨hagrees, hunbound⟩ := hs.agrees m hm
    have hm' := hothers m hm
    refine ⟨commitAgrees_of (by rw [hm']) (fun _ _ _ h => by rwa [hbus]) (hqueued m) hagrees, fun hb => ?_⟩
    rw [slot_of_changeAt_ne hslots hm] at hb
    rw [hm']
    exact hunbound hb
  · by_cases hm : m = n
    · rw [hm, slot_of_changeAt hslots]
      exact hst
    · rw [slot_of_changeAt_ne hslots hm]
      exact hs.allowed m
  · rw [hbus]
    rcases horphan with h | ⟨d, x, pre, serial, c, hp, h⟩
    · exact hs.orphan o (h ▸ ho)
    · obtain rfl := Option.some.inj (h.symm.trans ho)
      exact hd d x pre serial c hp

/-- The purge takes the slot's DEBIT from the queue and marks the one on the line, and leaves the others (R88). -/
theorem purge_held {s : State} (hs : s.DebitsHeld) (n : Slot) : (s.purge n).Held (· = n) ∧ (s.purge n).departs n := by
  have hleft {m : Slot} {d : Nat} {x : Word} {left : Bool} (h : s.bus.HasDebit m d x left) :
      (s.purge n).bus.HasDebit m d x (if m = n then true else left) := by
    obtain ⟨f, hf, hk, rfl, hd, hx, hl⟩ := h
    refine ⟨if f.slot = n then { f with slotLeft := true } else f, by simp [State.purge, State.onBus, hf], ?_⟩
    split <;> exact ⟨hk, rfl, hd, hx, by simp [*]⟩
  have hqueued (m : Slot) : (s.purge n).debitsQueued m = if m = n then 0 else s.debitsQueued m := by
    split
    · exact List.count_eq_zero.mpr (by simp [State.purge, State.onBus, *])
    · exact List.count_filter (by simp [*])
  refine ⟨⟨fun m hm => ?_, hs.allowed, fun m => ?_, fun o ho => ?_⟩, fun d x pre serial c hp => ?_⟩
  · obtain ⟨hagrees, hidle⟩ := hs.agrees m
    refine ⟨commitAgrees_of (s := s) rfl (fun d x _ h => ?_) (by rw [hqueued, if_neg hm]) hagrees, hidle⟩
    have := hleft h
    rwa [if_neg hm] at this
  · rw [hqueued]
    split
    · exact Nat.zero_le 1
    · exact hs.single m
  · have := hleft (hs.orphan o ho)
    rwa [ite_self] at this
  · obtain ⟨_, hflight, _⟩ := commitAgrees_iff.mp (hs.agrees n).1
    have := hleft (hflight d x pre serial c hp).1
    rwa [if_pos rfl] at this

/-- A cartridge leaves its socket, the queue purged of its slot (R88, R94). -/
theorem purge_leave_held {s : State} (hs : s.DebitsHeld) (n : Slot) : ((s.purge n).leave n).DebitsHeld := by
  obtain ⟨hheld, hd⟩ := purge_held hs n
  obtain ⟨_, hidle⟩ := hs.agrees n
  have hallowed := hs.allowed n
  unfold State.leave
  split
  · rename_i he
    rw [show (s.slot n).state = .empty from he] at hallowed
    have hphase := hidle (Option.isNone_iff_eq_none.mp (by simpa [SlotState.allowsBinding] using hallowed))
    exact hheld.whole ⟨commitAgrees_of_idle hphase, fun _ => hphase⟩
  · exact ((quiet_slot _ n _).trans (quiet_raiseSlot _ .removed n)).held (unbind_held hheld hd hidle (st := .empty) rfl)

theorem remove_held {s : State} (hs : s.DebitsHeld) (n : Slot) : (s.remove n).DebitsHeld :=
  purge_leave_held ((quiet_setWatch s n .quiet).held hs) n

theorem socketLoaded_held (before : Vector SocketConfig 12) {s : State} (hs : s.DebitsHeld) (n : Slot) :
    (State.socketLoaded before s n).DebitsHeld := by
  have hwatched := (quiet_setWatch s n .disabled).held hs
  have hleft := purge_leave_held hwatched n
  unfold State.socketLoaded
  split
  · unfold State.disableSlot
    split
    · exact hleft
    · exact hleft
    · exact hleft
    · exact hwatched
  · exact (quiet_enableSlot s n).held hs
  · exact hs

/-- A load of a table keeps commits and bus in agreement (R69, R78, R96, R153). -/
theorem Loads.debitsHeld {s t : State} {first written : Nat} (h : Loads s first written t) (hs : s.DebitsHeld) : t.DebitsHeld := by
  cases h with
  | staged _ | keys _ => exact Quiet.held quiet_same hs
  | classes xs _ => exact (Quiet.foldl (quiet_classLoaded first written) allSlots _).held (Quiet.held quiet_same hs)
  | sockets f =>
    have hloaded : (s.onTables fun t => { t with sockets := f t.sockets }).DebitsHeld := Quiet.held quiet_same hs
    exact List.foldlRecOn allSlots _ hloaded fun _ ht n _ => socketLoaded_held _ ht n
  | settings v =>
    have hloaded : (s.onTables fun t => { t with settings := v }).DebitsHeld := Quiet.held quiet_same hs
    exact (quiet_settingsLoaded _).held hloaded

/-! ### Failures -/

theorem giveUp_held {s : State} (hs : s.DebitsHeld) {n : Slot} (hd : s.departs n) : (s.giveUp n).DebitsHeld := by
  unfold State.giveUp
  refine (quiet_raiseSlot _ .rejected n).held ?_
  split
  · exact unbind_held (hs.but _) hd (hs.agrees n).2 (st := .foreign) rfl
  · rename_i h
    exact (quiet_changeState (st := .foreign) fun _ => Bool.eq_false_iff.mpr h).held hs

/-- A failure, with no DEBIT of the slot on the line but that of one that has left (R107, R112). -/
theorem fail_held {s : State} (hs : s.DebitsHeld) {n : Slot} (hd : s.departs n) {k : BusKind} (hk : k ≠ .debit) :
    (s.fail n k).DebitsHeld := by
  have hcounted : Quiet s (s.onSlot n fun r => { r with attempts := (s.slot n).attempts + 1 }) := quiet_slot s n _
  unfold State.fail
  dsimp only
  split
  · exact (hcounted.trans (quiet_retry _ n hk)).held hs
  · unfold State.exhaust
    split
    · exact giveUp_held (hcounted.held hs) (hcounted.departs hd)
    · exact (hcounted.trans (quiet_holdOff _ n)).held hs

theorem identifyOutcome_held {s : State} (hs : s.DebitsHeld) {n : Slot} (hd : s.departs n) (outcome : BusOutcome) :
    (s.identifyOutcome n outcome).DebitsHeld := by
  unfold State.identifyOutcome
  split
  · split
    · split
      · exact (quiet_identification ‹_› ‹_› _).held hs
      · rename_i hb
        unfold State.reidentification
        split
        · exact (quiet_reidentified (by rw [hb]; rfl)).held hs
        · exact fail_held hs hd nofun
    · exact fail_held hs hd nofun
    · exact (quiet_retry s n (k := .identify) nofun).held hs
  · exact hs

/-! ### Challenges -/

theorem resolve_held {s : State} (hs : s.DebitsHeld) (n : Slot) (r : Resolution) : (s.resolve n r).DebitsHeld := by
  cases r with
  | nothing => exact hs
  | slotApplied d =>
    exact (((quiet_boundEntry s n _).trans (quiet_lowerAccount _ n d)).held (hs.but _)).commitIdle
  | slotNotApplied => exact ((quiet_boundEntry s n _).held (hs.but _)).commitIdle
  | entryApplied d => exact (quiet_boundEntry s n _).held hs
  | entryNotApplied => exact (quiet_boundEntry s n _).held hs

theorem resolutionEnd_held {s : State} (hs : s.DebitsHeld) (n : Slot) (r : Resolution) : (s.resolutionEnd n r).DebitsHeld := by
  cases r with
  | slotApplied _ => exact settleEnd_held hs n
  | slotNotApplied => exact (quiet_commit _ n _).held (askCommit_held hs .notApplied n)
  | entryNotApplied => exact askCommit_held hs .notApplied n
  | nothing | entryApplied _ => exact hs

theorem succeed_held {s : State} (hs : s.DebitsHeld) (n : Slot) (level : Nat) : (s.succeed n level).DebitsHeld := by
  have hresolved := resolve_held ((quiet_slot s n fun r => { r with attempts := 0, round := 0 }).held hs) n (s.resolution n level)
  have hjudged := ((quiet_judgeLevel _ n level).trans (quiet_enterProven _ n)).held hresolved
  have hended := resolutionEnd_held ((quiet_slot _ n fun r => { r with countdown := s.tables.interval }).held hjudged) n
    (s.resolution n level)
  unfold State.succeed
  dsimp only
  split
  · exact recheck_held hended n
  · exact hended

theorem challengeOutcome_held {s : State} (hs : s.DebitsHeld) {n : Slot} (hd : s.departs n) (nonce : Word) (outcome : BusOutcome) :
    (s.challengeOutcome n nonce outcome).DebitsHeld := by
  unfold State.challengeOutcome
  split
  · split
    · split
      · split
        · exact succeed_held hs n _
        · have hweighed := quiet_addWeight s
          exact fail_held ((hweighed _ _).held hs) ((hweighed _ _).departs hd) nofun
      · exact hs
    · exact fail_held hs hd nofun
    · exact (quiet_retry s n (k := .challenge) nofun).held hs
  · exact hs

/-! ### The outcome of a DEBIT -/

theorem confirmDebit_held {s : State} {n : Slot} (hs : s.Held (· = n)) (d newLevel : Nat) : (s.confirmDebit n d newLevel).DebitsHeld :=
  settleEnd_held (((quiet_checkConfirmation _ n newLevel).trans (quiet_recompute _ n)).held
    ((quiet_lowerAccount s n d).held hs).commitIdle) n

theorem mismatchDebit_held {s : State} {n : Slot} (hs : s.Held (· = n)) (d : Nat) (serial : Word) :
    (s.mismatchDebit n d serial).DebitsHeld :=
  settleEnd_held (((quiet_askChallenge _ n).trans (quiet_recompute _ n)).held
    (((quiet_lowerAccount s n d).trans (quiet_addWeight _ serial _)).held hs).commitIdle) n

/-- A DEBIT in doubt: none of the slot is queued (R126). -/
theorem doubtDebit_held {s : State} {n : Slot} (hs : s.Held (· = n)) (hq : s.debitsQueued n = 0) (hb : (s.slot n).binding ≠ none)
    (d preLevel : Nat) : (s.doubtDebit n d preLevel).DebitsHeld := by
  refine ((quiet_raiseSlot _ .commitInDoubt n).trans (quiet_askChallenge _ n)).held ((hs.onCommit _).whole ⟨?_, fun h => absurd h hb⟩)
  have hphase : ((s.onCommit n fun c => { c with phase := .inDoubt d preLevel }).commit n).phase = .inDoubt d preLevel := by
    rw [commit_onCommit]
  rw [commitAgrees_iff, hphase]
  exact ⟨nofun, nofun, fun _ _ _ => hq⟩

theorem quiet_settledOrphan (s : State) (o : Orphan) (outcome : BusOutcome) : Quiet (s.setOrphan none) (s.settleOrphan o outcome) := by
  unfold State.settleOrphan
  dsimp only
  split
  · exact .ite (fun _ => quiet_entry _ _ _) fun _ => (quiet_entry _ _ _).trans (quiet_addWeight _ _ _)
  · exact quiet_raiseSlot _ _ _
  · exact quiet_raiseSlot _ _ _

/-- A DEBIT's end settles the record or the orphan that it was on the line for (R123 to R126, R129). -/
theorem endDebit_held {s : State} (hs : s.DebitsHeld) {f : Flight} (hf : s.bus.flight = some f) (outcome : BusOutcome) :
    ((s.onBus Bus.ended).debitOutcome f.slot outcome).DebitsHeld := by
  have honly {n d x left} (h : s.bus.HasDebit n d x left) : n = f.slot ∧ left = f.slotLeft := by
    obtain ⟨g, hg, _, hslot, _, _, hleft⟩ := h
    rw [hf] at hg
    cases hg
    exact ⟨hslot.symm, hleft.symm⟩
  have honline {n} (h : (s.commit n).phase.onLine) : n = f.slot ∧ f.slotLeft = false := by
    obtain ⟨d, x, pre, serial, c, hp⟩ := h
    obtain ⟨_, hflight, _⟩ := commitAgrees_iff.mp (hs.agrees n).1
    obtain ⟨hslot, hleft⟩ := honly (hflight d x pre serial c hp).1
    exact ⟨hslot, hleft.symm⟩
  have ended {t : State} {q : Slot → Prop} (ho : t.commits.orphan = none) (hline : ∀ m, (s.commit m).phase.onLine → q m)
      (hc : t.commits.records = s.commits.records := by rfl) (hb : t.bus = s.bus.ended := by rfl) (hl : t.slots = s.slots := by rfl) :
      t.Held q := by
    have hqueued (m : Slot) : t.debitsQueued m = s.debitsQueued m := by rw [State.debitsQueued, hb]; rfl
    exact hs.aground (fun m _ => by rw [State.commit, hc]; rfl) hl (fun m _ => hqueued m) (fun m => hqueued m ▸ hs.single m) ho hline
  unfold State.debitOutcome
  split
  · rename_i o ho
    refine (quiet_settledOrphan _ o outcome).held (ended rfl fun m hm => ?_)
    obtain ⟨_, hleft⟩ := honly (hs.orphan o ho)
    exact absurd (hleft.trans (honline hm).2) nofun
  · rename_i ho
    split
    · rename_i d x pre serial c hp
      have hheld : (s.onBus Bus.ended).Held (· = f.slot) := ended ho fun m hm => (honline hm).1
      obtain ⟨_, hflight, _⟩ := commitAgrees_iff.mp (hs.agrees f.slot).1
      have hnone := (hflight d x pre serial c hp).2
      have hbound : (s.slot f.slot).binding ≠ none := fun h => by
        have := (hs.agrees f.slot).2 h
        rw [show (s.commit f.slot).phase = _ from hp] at this
        cases this
      split
      · split
        · exact confirmDebit_held hheld d _
        · exact mismatchDebit_held hheld d serial
      · exact doubtDebit_held hheld hnone hbound d pre
      · exact doubtDebit_held hheld hnone hbound d pre
    · rename_i hp
      refine ended ho fun m hm => ?_
      obtain rfl := (honline hm).1
      obtain ⟨d, x, pre, serial, c, hm⟩ := hm
      exact hp d x pre serial c hm

/-- The end of a transaction keeps commits and bus in agreement (R83 to R88). -/
theorem endTransaction_held {s : State} (hs : s.DebitsHeld) {f : Flight} (hf : s.bus.flight = some f) (outcome : BusOutcome) :
    (s.endTransaction f outcome).DebitsHeld := by
  change ((s.onBus Bus.ended).deliver f outcome).DebitsHeld
  have ended (hk : f.kind ≠ .debit) : (s.onBus Bus.ended).DebitsHeld := by
    have hno {n d x left} : ¬ s.bus.HasDebit n d x left := by
      rintro ⟨g, hg, hkind, _⟩
      rw [hf] at hg
      cases hg
      exact hk hkind
    refine hs.aground (fun _ _ => rfl) rfl (fun _ _ => rfl) hs.single ?_ ?_
    · exact Option.eq_none_iff_forall_ne_some.mpr fun o ho => hno (hs.orphan o ho)
    · rintro m ⟨d, x, pre, serial, c, hp⟩
      obtain ⟨_, hflight, _⟩ := commitAgrees_iff.mp (hs.agrees m).1
      exact hno (hflight d x pre serial c hp).1
  unfold State.deliver
  split
  · exact endDebit_held hs hf outcome
  · rename_i hk
    have hended := ended (by rw [hk]; nofun)
    split
    · exact hended
    · exact identifyOutcome_held hended (departs_of_line_free hended rfl f.slot) outcome
  · rename_i hk
    have hended := ended (by rw [hk]; nofun)
    split
    · exact hended
    · exact challengeOutcome_held hended (departs_of_line_free hended rfl f.slot) _ outcome

/-- A stuck line ends the transaction in flight (R85). -/
theorem stick_held {s : State} (hs : s.DebitsHeld) : s.stick.DebitsHeld := by
  have hfault : s.enterFault.DebitsHeld := (quiet_of_bus (s := s) (t := s.enterFault) rfl rfl).held hs
  unfold State.stick
  split
  · exact endTransaction_held hfault ‹_› _
  · exact hfault

/-! ### The taking of a request -/

/-- A record goes IN FLIGHT with its DEBIT (R121): no other DEBIT is on the line, and none of the slot queued. -/
theorem recordFlight_held {s : State} {n : Slot} (hs : s.Held (· = n)) {b : Binding} (hb : (s.slot n).binding = some b)
    (hq : s.debitsQueued n = 0) (hline : ∀ m, ¬ (s.commit m).phase.onLine) (ho : s.commits.orphan = none) (d : Nat) :
    ((s.recordFlight n d).putInFlight n .debit s.nonce d).DebitsHeld := by
  rw [State.recordFlight, hb]
  dsimp only
  set f : CommitRecord → CommitRecord := fun c =>
    { c with phase := .inFlight d s.nonce ((s.slot n).level.getD 0) b.identity.serial b.classIndex } with hf
  set t := (s.onCommit n f).putInFlight n .debit s.nonce d with ht
  have hrecorded : t.Held (· = n) := by
    refine ⟨fun m hm => ?_, hs.allowed, hs.single, fun o h => absurd (h.symm.trans ho) nofun⟩
    obtain ⟨hagrees, hidle⟩ := hs.agrees m hm
    have hphase : (t.commit m).phase = (s.commit m).phase := congrArg CommitRecord.phase (commit_onCommit_ne s hm f)
    exact ⟨commitAgrees_of hphase (fun _ _ h => absurd h (hline m)) rfl hagrees, fun h => hphase.trans (hidle h)⟩
  have hphase : (t.commit n).phase = .inFlight d s.nonce ((s.slot n).level.getD 0) b.identity.serial b.classIndex :=
    congrArg CommitRecord.phase (commit_onCommit s n f)
  refine hrecorded.whole ⟨?_, fun h => absurd (hb.symm.trans h) nofun⟩
  rw [commitAgrees_iff, hphase]
  refine ⟨nofun, ?_, nofun⟩
  rintro _ _ _ _ _ ⟨⟩
  exact ⟨⟨_, rfl, rfl, rfl, rfl, rfl, rfl⟩, hq⟩

/-- A DEBIT that is taken is dropped or goes on the line, and its record with it (R82, R121). -/
theorem takeDebit_held {s : State} (hs : s.DebitsHeld) (hf : s.bus.flight = none) {n : Slot} :
    ((s.onBus fun b => { b with queue := b.queue.erase ⟨n, .debit⟩ }).beginTransaction ⟨n, .debit⟩).DebitsHeld := by
  obtain ⟨hline, horphan⟩ := hs.line_free hf
  set u := s.onBus fun b => { b with queue := b.queue.erase ⟨n, .debit⟩ } with hu
  have hqueued (m : Slot) (hm : m ≠ n) : u.debitsQueued m = s.debitsQueued m :=
    List.count_erase_of_ne (by rintro ⟨⟩; exact hm rfl)
  have hnone : u.debitsQueued n = 0 := by
    have hone := hs.single n
    have herased : u.debitsQueued n = s.debitsQueued n - 1 := List.count_erase_self
    omega
  have hheld : u.Held (· = n) := by
    refine hs.aground (fun _ _ => rfl) rfl hqueued (fun m => ?_) horphan fun m hm => absurd hm (hline m)
    by_cases hm : m = n
    · rw [hm, hnone]
      exact Nat.zero_le 1
    · exact hqueued m hm ▸ hs.single m
  have hidle : (u.slot n).binding = none → (u.commit n).phase = .idle := (hs.agrees n).2
  rw [State.beginTransaction]
  dsimp only
  split
  · by_cases hw : (u.commit n).phase = .waiting
    · exact hheld.idle (if_pos hw)
    · have hphase : ((u.dropDebit n).commit n).phase = (u.commit n).phase := by
        rw [State.dropDebit, commit_onCommit]
        exact if_neg hw
      refine (hheld.onCommit _).whole ⟨?_, fun hb => hphase.trans (hidle hb)⟩
      change (u.dropDebit n).commitAgrees n
      rw [commitAgrees_iff, hphase]
      exact ⟨fun h => absurd h hw, fun d x pre serial c h => absurd ⟨d, x, pre, serial, c, h⟩ (hline n), fun _ _ _ => hnone⟩
  · rename_i hd
    have hwaiting : (u.slot n).state.isProven = true ∧ (u.commit n).phase = .waiting := by
      by_contra h
      exact hd (if_neg h)
    obtain ⟨b, hb⟩ := Option.ne_none_iff_exists'.mp (hheld.bound_of_proven hwaiting.1)
    obtain ⟨x, hx⟩ := advanceNonce_eq u
    rw [hx]
    exact recordFlight_held (s := { u with nonce := x }) (Quiet.held quiet_same hheld) hb hnone hline horphan _

theorem takeOne_held {s : State} (hs : s.DebitsHeld) : s.takeOne.DebitsHeld := by
  rcases takeOne_cases s with h | ⟨⟨n, k⟩, hfree, _, h⟩ <;> rw [h]
  · exact hs
  · obtain ⟨_, hf⟩ := (isFree_iff _).mp hfree
    obtain ⟨hline, horphan⟩ := hs.line_free hf
    have hqueued (hk : k ≠ .debit) (m : Slot) : (s.bus.queue.erase ⟨n, k⟩).count ⟨m, .debit⟩ = s.debitsQueued m :=
      List.count_erase_of_ne (by rintro ⟨⟩; exact hk rfl)
    cases k with
    | debit => exact takeDebit_held hs hf
    | identify | challenge =>
      exact hs.aground (fun _ _ => rfl) rfl (fun m _ => hqueued nofun m) (fun m => (hqueued nofun m).trans_le (hs.single m)) horphan
        hline

end Sys2Proof.Machine
end

section
/-! PROOFS. O18: commit records and supply bus stay in agreement (R117, R120, R121, R128, R129). Every command's work keeps them so; a
transaction's end and the settling of its DEBIT are one operation. -/

namespace Sys2Proof.Machine

namespace State.DebitsHeld

section
variable {s : State} (hs : s.DebitsHeld)
include hs

/-! ### The ends of commands, the link and the Swath Path -/

theorem quiet {t : State} (h : Quiet s t) : t.DebitsHeld := h.held hs

/-- What leaves the supply side leaves the commits. -/
theorem aside {t : State} (h : t.supply = s.supply) : t.DebitsHeld := hs.quiet (quiet_of_supply h)

theorem finish : s.finish.DebitsHeld :=
  finish_keeps (p := State.DebitsHeld) (fun _ => takeOne_held) (fun _ h => h.aside (endStage1_supply _))
    (fun _ h => h.aside (sendNext_supply _)) s hs

theorem endSwath (d : Descriptor) : (s.endSwath d).DebitsHeld := by
  have hhanded := handOver_held hs d
  unfold State.endSwath
  generalize s.handOver d = t at hhanded ⊢
  exact hhanded.aside (onSwath_supply t _)

theorem truncate : s.truncate.DebitsHeld := by
  unfold State.truncate
  split
  · exact (hs.endSwath _).aside (raise_supply _ _ _ _)
  · exact hs

theorem emptyLink : s.emptyLink.DebitsHeld := by
  have htruncated := hs.truncate
  unfold State.emptyLink
  generalize s.truncate = t at htruncated ⊢
  exact htruncated.aside rfl

theorem takeSwathOpen (f : RxFrame) : (s.takeSwathOpen f).DebitsHeld := by
  have htruncated : (s.truncate.forward s.truncationFrames).DebitsHeld := hs.truncate.aside (forward_supply _ _)
  unfold State.takeSwathOpen
  generalize s.truncate.forward s.truncationFrames = t at htruncated ⊢
  dsimp only
  split
  · exact htruncated.aside ((forward_supply _ _).trans (recordOpening_supply t f.payload))
  · exact htruncated.aside rfl

theorem takeSwathClose (f : RxFrame) : (s.takeSwathClose f).DebitsHeld := by
  unfold State.takeSwathClose
  split
  · exact (hs.endSwath _).aside (forward_supply _ _)
  · exact hs.aside ((onSwath_supply _ _).trans (strayFire_supply s))

theorem takeFmtFrame (k : FrameKind) (f : RxFrame) : (s.takeFmtFrame k f).DebitsHeld := by
  have hdiscarded : s.discardFrame.DebitsHeld := hs.aside (discardFrame_supply s)
  have places {p : Prop} [Decidable p] {t : State} (h : t.DebitsHeld) : (if p then t else s.discardFrame).DebitsHeld := by
    split
    · exact h
    · exact hdiscarded
  cases k with
  | swathOpen => exact places (hs.takeSwathOpen f)
  | fire => exact places (hs.aside (takeFire_supply s f))
  | swathClose => exact places (hs.takeSwathClose f)
  | request => exact hs.aside (takeRequestFrame_supply s f)
  | reply | notice | headStatus => exact hdiscarded

theorem receiveFmt (k : FrameKind) (f : RxFrame) : (s.receiveFmt k f).DebitsHeld := by
  have harrived : s.frameArrives.DebitsHeld := hs.aside (frameArrives_supply s)
  unfold State.receiveFmt
  dsimp only
  split
  · exact harrived.takeFmtFrame k f
  · exact harrived.aside (discardFrame_supply _)

theorem receiveSymbol (x : Symbol) : (s.receiveSymbol x).DebitsHeld := by
  have hset : (s.setReceiver (receive s.link.receiver x).1).DebitsHeld := hs.aside (onLink_supply _ _)
  unfold State.receiveSymbol
  dsimp only
  split
  · exact hset
  · exact hset.aside (discardFrame_supply _)
  · split
    · exact hset.takeFmtFrame _ _
    · exact hset.aside (discardFrame_supply _)

/-! ### Requests -/

theorem loadTable (args : List Byte) : (s.loadTable args).1.DebitsHeld := by
  have refused (r : Status) : (refuse s r).1.DebitsHeld := hs
  unfold State.loadTable
  split
  · exact refused _
  · split
    · exact refused _
    · dsimp only
      split
      · exact refused _
      · split
        · exact refused _
        · split
          · exact refused _
          · split
            · exact (loadEntries_loads ‹_›).debitsHeld hs
            · exact refused _

theorem reauthenticate (n : Slot) : (s.reauthenticate n).1.DebitsHeld := by
  unfold State.reauthenticate
  split
  · exact hs.quiet (quiet_askChallenge s n)
  · exact hs

theorem commitSlot (n : Slot) : (s.commitSlot n).1.DebitsHeld := by
  unfold State.commitSlot
  split
  · exact askCommit_held hs _ n
  · exact hs

theorem park : s.park.1.DebitsHeld := by
  have hparking : (s.setPark (.parking .commits)).DebitsHeld := hs.aside (setPark_supply s _)
  unfold State.park
  split
  · exact hs
  · split
    · exact hs
    · split
      · exact hs
      · exact hs
      · dsimp only [queued]
        exact List.foldlRecOn allSlots _ hparking fun _ ht n _ => askCommit_held ht .request n

theorem resume : s.resume.1.DebitsHeld := by
  have hactive : (s.setPark .active).DebitsHeld := hs.aside (setPark_supply s _)
  have challenged (t : State) (n : Slot) : Quiet t (t.challengeProven n) := .ite (fun _ => quiet_askChallenge t n) fun _ => .refl t
  unfold State.resume
  split
  · exact hs
  · exact hactive
  · dsimp only [done]
    exact hactive.quiet (Quiet.foldl challenged allSlots _)

theorem saveStore : s.saveStore.1.DebitsHeld := by
  unfold State.saveStore
  split
  · exact hs
  · exact hs.aside rfl

theorem actOn (code : Byte) (args : List Byte) : (s.actOn code args).1.DebitsHeld := by
  unfold State.actOn
  split
  · exact hs.loadTable args
  · rwa [readTable_state]
  · exact hs.aside (lockTable_supply s args)
  · exact slotArgument_keeps hs args fun _ => hs
  · rwa [queryKnown_state]
  · exact bare_keeps hs args hs
  · exact hs.aside (actOnEvents_supply s args)
  · exact slotArgument_keeps hs args fun n => hs.reauthenticate n
  · exact slotArgument_keeps hs args fun n => hs.commitSlot n
  · exact bare_keeps hs args hs.park
  · exact bare_keeps hs args hs.resume
  · exact bare_keeps hs args hs.saveStore
  · exact bare_keeps hs args hs.emptyLink
  · exact hs

theorem takeRequest {act : State → List Byte → State × Reply}
    (ha : ∀ t args, t.DebitsHeld → (act t args).1.DebitsHeld) (r : Request) : (s.takeRequest r act).DebitsHeld := by
  rw [takeRequest_eq]
  exact (ha _ r.args (hs.aside (onDecoder_supply s _))).aside (onLink_supply _ _)

theorem serve : s.serve.DebitsHeld := by
  refine serve_keeps (p := State.DebitsHeld) (fun t ht => ?_) s hs
  rcases serveOne_cases t with ⟨_, e⟩ | ⟨r, _, e⟩ <;> rw [e]
  · exact ht
  · exact (ht.takeRequest (fun _ args hu => hu.actOn r.code args) r).finish

theorem take (front : Option Request) {act : State → List Byte → State × Reply}
    (ha : ∀ t args, t.DebitsHeld → (act t args).1.DebitsHeld) : (s.take front act).DebitsHeld := by
  unfold State.take
  split
  · exact (hs.takeRequest ha _).finish.serve
  · exact hs

end

end State.DebitsHeld

/-! ### The bus line, reset and start-up -/

/-- A change of the bus that leaves the queue, and of the transaction in flight but its stage (R82, R84). -/
theorem quiet_stage {s t : State} (g : Flight → FlightStage)
    (hf : t.bus.flight = s.bus.flight.map fun f => { f with stage := g f }) (hq : t.bus.queue = s.bus.queue)
    (hc : t.commits = s.commits := by rfl) (hl : t.slots = s.slots := by rfl) : Quiet s t where
  phase n := by rw [State.commit, hc]; rfl
  orphan := by rw [hc]
  line := by
    rintro n d x left ⟨f, h, hdebit⟩
    exact ⟨{ f with stage := g f }, by rw [hf, h]; rfl, hdebit⟩
  queued n := by rw [State.debitsQueued, hq]; rfl
  bound n h := by rwa [State.slot, hl]
  allowed n h := by rwa [State.slot, hl]

theorem quiet_released (s : State) : Quiet s (({ s with busLow := false } : State).onBus Bus.released) := by
  refine quiet_stage (fun f => if f.stage = .waiting then .sending else f.stage) ?_ rfl
  refine congrArg (Option.map · s.bus.flight) (funext fun f => ?_)
  split <;> rfl

/-- Start-up leaves every slot EMPTY, every record IDLE and nothing queued or on the line (R89, R90, R117). -/
theorem completeStart_held (s : State) (straps : BitVec 4) : (s.completeStart straps).DebitsHeld := by
  have hslot (n : Slot) : ((s.reported straps).slot n) = .fresh := reported_slot s straps n
  have hcommit (n : Slot) : ((s.reported straps).commit n).phase = .idle := by
    simp [State.commit, State.reported, State.loaded, CommitUnit.fresh]
  have hreported : (s.reported straps).DebitsHeld := by
    refine ⟨fun n _ => ⟨commitAgrees_of_idle (hcommit n), fun _ => hcommit n⟩, fun n => ?_, fun n => Nat.zero_le 1, nofun⟩
    rw [hslot]
    rfl
  rw [completeStart_reported]
  exact (hreported.quiet (Quiet.foldl quiet_startArrival allSlots _)).aside (sendNext_supply _)

/-! ### Every command -/

/-- The agreement is asked for only once start-up is complete. -/
def State.heldWhenRunning (s : State) : Prop := s.run = .running → s.DebitsHeld

theorem exec_held (c : Instr) {s : State} (hs : s.heldWhenRunning) : Answers State.heldWhenRunning (exec c s) := by
  have running {f : State → State} (h : s.DebitsHeld → (f s).DebitsHeld) : Answers State.heldWhenRunning (.next (whenRunning f s)) :=
    answers_next (whenRunning_keeps hs fun hr _ => h (hs hr))
  have either {p : Prop} [Decidable p] {q : State → Prop} {t u : State} (ht : p → q t) (hu : q u) : q (if p then t else u) := by
    split
    · exact ht ‹_›
    · exact hu
  have acting {front : Option Request} {act : State → List Byte → State × Reply}
      (ha : ∀ t args, t.DebitsHeld → (act t args).1.DebitsHeld) :
      Answers State.heldWhenRunning (.next (whenRunning (fun s => s.take front act) s)) := running fun h => h.take front ha
  have reading {front : Option Request} {act : State → List Byte → State × Reply}
      (ha : ∀ t args, (act t args).1.supply = t.supply) :
      Answers State.heldWhenRunning (.next (whenRunning (fun s => s.take front act) s)) := acting fun t args h => h.aside (ha t args)
  cases c with
  -- reset and start-up
  | reset cause => exact answers_next nofun
  | resetRelease => exact answers_next (either (fun _ => nofun) hs)
  | startUp straps => exact answers_next (either (fun _ _ => completeStart_held s straps) hs)
  -- the link
  | linkSymbol x => exact running fun h => ((h.aside (t := s.symbolArrives) rfl).receiveSymbol x).finish.serve
  | linkLoss => exact running fun h => either (fun _ => (h.emptyLink.aside (t := s.loseLink) rfl).finish) h
  | swathOpen f | swathClose f => exact running fun h => (h.receiveFmt _ f).finish
  | fire f => exact running fun h => (h.receiveFmt _ f).aside (sendNext_supply _)
  | requestFrame f => exact running fun h => ((h.receiveFmt _ f).aside (sendNext_supply _)).serve
  | headStatus f | passThroughFrame k f =>
    exact running fun h => h.aside ((sendNext_supply _).trans (receiveHead_supply s _ f))
  | discardedFrame d => exact running fun h => either (fun _ => h.aside ((sendNext_supply _).trans (receiveDiscarded_supply s d))) h
  | downstreamSendEnd => exact running fun h => either (fun _ => h.aside rfl) h
  | upstreamSendEnd =>
    exact running fun h => either (fun _ => ((h.aside (onLink_supply s _)).aside (beginUp_supply _)).serve) h
  | tempStale n => exact running fun h => either (fun _ => h.aside ((sendNext_supply _).trans (goStale_supply s n))) h
  -- presence and hold-off
  | lineGoesPresent n =>
    have hline : (s.setLine n true).heldWhenRunning := fun hr => (hs hr).quiet quiet_same
    exact answers_next (either (fun _ => hs) (whenRunning_keeps hline fun hr _ =>
      ((hline hr).quiet (quiet_linePresent _ n)).aside (sendNext_supply _)))
  | lineGoesAbsent n =>
    have hline : (s.setLine n false).heldWhenRunning := fun hr => (hs hr).quiet quiet_same
    exact answers_next (either (fun _ => whenRunning_keeps hline fun hr _ => (hline hr).quiet (quiet_lineAbsent _ n)) hs)
  | seating n =>
    refine running fun h => ?_
    split
    · exact (h.quiet (quiet_seat s n)).finish
    · exact h
  | removal n =>
    refine running fun h => ?_
    split
    · exact (remove_held h n).finish
    · exact h
  | holdoffExpiry n => exact running fun h => either (fun _ => (h.quiet (quiet_endHoldoff s n)).finish) h
  -- the supply bus
  | transactionBegin => exact running fun h => either (fun _ => h.finish) h
  | commandSent =>
    refine running fun h => ?_
    split
    · exact either (fun _ => h.quiet (quiet_stage (fun _ => .awaiting) rfl rfl)) h
    · exact h
  | supplyReply bytes =>
    refine running fun h => ?_
    split
    · exact either (fun _ => (endTransaction_held h (awaited_iff.mp ‹_›).1 _).finish) h
    · exact h
  | responseTimeout =>
    refine running fun h => ?_
    split
    · exact (endTransaction_held h (awaited_iff.mp ‹_›).1 _).finish
    · exact h
  | busStuck =>
    exact running fun h => either (fun _ => (stick_held h).aside ((sendNext_supply _).trans (endStage1_supply _))) h
  | faultEnd => exact running fun h => either (fun _ => (h.quiet (quiet_of_bus (t := s.onBus Bus.freed) rfl rfl)).finish) h
  | busLineReleased =>
    exact answers_next (either (fun _ => whenRunning_keeps (fun hr => (hs hr).quiet quiet_same) fun hr _ =>
      (hs hr).quiet (quiet_released s)) hs)
  | busLinePulledLow =>
    exact answers_next (either (fun _ => hs) (whenRunning_keeps (fun hr => (hs hr).quiet quiet_same) fun hr _ =>
      (hs hr).quiet (quiet_of_bus rfl rfl)))
  -- notices and saves
  | noticeHoldoffExpiry => exact running fun h => either (fun _ => h.aside ((sendNext_supply _).trans (onEvents_supply s _))) h
  | parkingCopies => exact running fun h => h.aside (endStage1_supply s)
  | sectionWritten => exact running fun h => h.aside (onStore_supply s _)
  | saveComplete =>
    refine running fun h => ?_
    split
    · exact either (fun _ => ((h.aside (onStore_supply s _)).aside (parkOnSave_supply _)).aside (sendNext_supply _)) h
    · exact h
  -- requests
  | loadTable => exact acting fun _ args h => h.loadTable args
  | readTable => exact reading fun t args => congrArg _ (readTable_state t args)
  | lockTable => exact reading lockTable_supply
  | querySlot => exact acting fun _ args h => slotArgument_keeps h args fun _ => h
  | queryKnown => exact reading fun t args => congrArg _ (queryKnown_state t args)
  | queryStatus => exact acting fun _ args h => bare_keeps h args h
  | eventsRead | noticesOn | noticesOff => exact reading fun t args => bareOperation_supply t rfl args
  | eventsClear => exact reading eventsClear_supply
  | eventsEnable => exact reading eventsEnable_supply
  | reauthenticateSlot => exact acting fun _ args h => slotArgument_keeps h args fun n => h.reauthenticate n
  | commitSlot => exact acting fun _ args h => slotArgument_keeps h args fun n => h.commitSlot n
  | park => exact acting fun _ args h => bare_keeps h args h.park
  | resume => exact acting fun _ args h => bare_keeps h args h.resume
  | saveStore => exact acting fun _ args h => bare_keeps h args h.saveStore
  | linkReset => exact acting fun _ args h => bare_keeps h args h.emptyLink
  | unknownRequest =>
    refine running fun h => ?_
    split
    · exact h.take _ fun _ _ hu => hu
    · exact h

/-- With the other invariants, the agreement of O18 is that of every slot's record. -/
theorem heldWhenRunning_iff {s : State} (hbus : s.busSettled) (hsound : s.slotsSound) :
    s.heldWhenRunning ↔ s.commitsAgree := by
  refine forall_congr' fun _ => ⟨fun h => ⟨fun n => h.agrees n, h.orphan⟩, ?_⟩
  rintro ⟨hagrees, horphan⟩
  exact ⟨fun n _ => hagrees n, fun n => (hsound n).1.1, fun n => List.nodup_iff_count_le_one.mp hbus.1 _, horphan⟩

/-- Settles O18: O12 and O15 keep the premises, and every command's work keeps each record in agreement with the bus. -/
theorem commitsAndBusStayInAgreement : Obligations.CommitsAndBusStayInAgreement := by
  rintro s t ⟨hbus, hagree, hsound, hcommits⟩ h
  have hbus' := supplyBusStaysSettled s t hbus h
  obtain ⟨hagree', hsound'⟩ := slotRecordsStaySound s t ⟨hagree, hsound⟩ h
  have hheld : s.heldWhenRunning := (heldWhenRunning_iff hbus hsound).mpr hcommits
  refine ⟨hbus', hagree', hsound', (heldWhenRunning_iff hbus' hsound').mp ?_⟩
  unfold step at h
  split at h
  · rename_i c rest _
    have hrest : ({ s with pending := rest } : State).heldWhenRunning := fun hr => (hheld hr).aside rfl
    exact exec_held c hrest t h
  · cases h
    exact hheld

end Sys2Proof.Machine
end

section
/-! PROOFS. What a save writes, start-up reads (R155, R179, R181; log entry 10): each entry form is read back as the entry it was made
of, a run of them as the table or list, and the three sections as their contents. -/

namespace Sys2Proof.Machine

/-! ### Fields -/

theorem leValue_leBytes (k v : Nat) : leValue (leBytes k v) = v % 256 ^ k := by
  induction k generalizing v with
  | zero => simp [leBytes, leValue, Nat.mod_one]
  | succ k ih =>
    rw [leBytes, leValue, ih, BitVec.toNat_ofNat, Nat.pow_succ' (m := 256), Nat.mod_mul]

theorem leBytes_length (k v : Nat) : (leBytes k v).length = k := by
  induction k generalizing v with
  | zero => rfl
  | succ k ih => rw [leBytes, List.length_cons, ih]

/-- A field that holds a number of its width is read as that number. -/
theorem leField_of_bytes {bs : List Byte} {off k v : Nat} (h : (bs.drop off).take k = leBytes k v) (hv : v < 256 ^ k) :
    leField bs off k = v := by
  rw [leField, h, leValue_leBytes, Nat.mod_eq_of_lt hv]

/-- A field that holds a word's value is read as the word. -/
theorem word_of_bytes {bs : List Byte} {off k w : Nat} {x : BitVec w} (h : (bs.drop off).take k = leBytes k x.toNat)
    (hw : 2 ^ w = 256 ^ k) : BitVec.ofNat w (leField bs off k) = x := by
  rw [leField_of_bytes h (hw ▸ x.isLt), BitVec.ofNat_toNat, BitVec.setWidth_eq]

theorem toNat_byte {v : Nat} (h : v < 256) : (BitVec.ofNat 8 v).toNat = v := by
  rw [BitVec.toNat_ofNat, Nat.mod_eq_of_lt h]

/-! ### Runs of entries -/

/-- Entries of one size, each of whose forms is read back, are read back one after the other. -/
theorem parseEntries_forms {α : Type} {size : Nat} {form : α → List Byte} {parse : Nat → List Byte → Option α} (xs : List α)
    (hlength : ∀ x ∈ xs, (form x).length = size) (first : Nat)
    (hparse : ∀ (j : Nat) (hj : j < xs.length), parse (first + j) (form xs[j]) = some xs[j]) (rest : List Byte) :
    parseEntries size first xs.length parse (xs.flatMap form ++ rest) = some xs := by
  unfold parseEntries
  induction xs generalizing first with
  | nil => rfl
  | cons x xs ih =>
    have hx : (form x).length = size := hlength x List.mem_cons_self
    have hhead : parse first (form x) = some x := hparse 0 (Nat.zero_lt_succ _)
    have htail := ih (fun y hy => hlength y (List.mem_cons_of_mem x hy)) (first + 1) fun j hj => by
      have := hparse (j + 1) (Nat.succ_lt_succ hj)
      rwa [List.getElem_cons_succ, Nat.add_comm j, ← Nat.add_assoc] at this
    have hdrop (j : Nat) :
        (form x ++ (xs.flatMap form ++ rest)).drop (size * (j + 1)) = (xs.flatMap form ++ rest).drop (size * j) := by
      rw [Nat.mul_succ, Nat.add_comm, ← List.drop_drop, List.drop_left' hx]
    rw [List.length_cons, List.range_succ_eq_map, List.mapM_cons, List.mapM_map, List.flatMap_cons, List.append_assoc]
    simp only [hdrop, Function.comp_def, Nat.succ_eq_add_one]
    simp only [← Nat.add_assoc, Nat.add_right_comm first _ 1, htail]
    simp [← hx, hhead]

/-- A table of such entries is read back from where it stands. -/
theorem parseTable_forms {α : Type} {n size offset : Nat} {form : α → List Byte} {parse : Nat → List Byte → Option α}
    (base v : Vector α n) (hlength : ∀ x, (form x).length = size) (hparse : ∀ i : Fin n, parse i.val (form v[i]) = some v[i])
    {bs rest : List Byte} (hbs : bs.drop offset = v.toList.flatMap form ++ rest) :
    parseTable base size offset parse bs = some v := by
  have hentries := parseEntries_forms (parse := parse) v.toList (fun x _ => hlength x) 0 (fun j hj => by
    rw [Nat.zero_add]
    exact hparse ⟨j, by simpa using hj⟩) rest
  rw [Vector.length_toList] at hentries
  rw [parseTable, hbs, hentries, Option.map_some]
  refine congrArg some (Vector.ext fun i hi => ?_)
  simp [writeFrom]

theorem flatMap_length {α : Type} {size : Nat} {form : α → List Byte} (hlength : ∀ x, (form x).length = size) (xs : List α) :
    (xs.flatMap form).length = size * xs.length := by
  induction xs with
  | nil => rfl
  | cons x xs ih => rw [List.flatMap_cons, List.length_append, hlength, ih, List.length_cons, Nat.mul_succ, Nat.add_comm]

/-! ### The entry forms of the tables -/

theorem flagByte_toNat_le (b : Bool) : (flagByte b).toNat ≤ 1 := by cases b <;> decide

theorem flagByte_eq_one (b : Bool) : (flagByte b == 1#8) = b := by cases b <;> decide

theorem parseFlag_form (i : Nat) (b : Bool) : parseFlag i [flagByte b] = some b := by
  cases b <;> rfl

theorem parseAction_form (i : Nat) (a : Action) : parseAction i (actionForm a) = some a := by
  cases a <;> rfl

theorem parseSocket_form (i : Nat) (c : SocketConfig) : parseSocket i c.bytes = some c :=
  (if_pos (flagByte_toNat_le c.enabled)).trans (congrArg (fun b => some (SocketConfig.mk b c.colours)) (flagByte_eq_one c.enabled))

theorem parseKey_form (i : Nat) (k : Key) : parseKey i k.bytes = some k := by
  have h0 : BitVec.ofNat 32 (leField k.bytes 0 4) = k.k0 := word_of_bytes rfl rfl
  have h1 : BitVec.ofNat 32 (leField k.bytes 4 4) = k.k1 := word_of_bytes rfl rfl
  have h2 : BitVec.ofNat 32 (leField k.bytes 8 4) = k.k2 := word_of_bytes rfl rfl
  have h3 : BitVec.ofNat 32 (leField k.bytes 12 4) = k.k3 := word_of_bytes rfl rfl
  rw [parseKey, h0, h1, h2, h3]

/-- A class entry in its ranges is read back (R158, table 6). -/
theorem parseClass_form (i : Nat) {c : ClassEntry} (h : c.inRange) : parseClass i c.bytes = some c := by
  obtain ⟨hceiling, hlow, hreserve⟩ := h
  have hkeyIndex : (byteAt c.bytes 6).toNat = c.keyIndex.val := toNat_byte (by omega)
  have hlowField : leField c.bytes 11 2 = c.low := leField_of_bytes rfl (by omega)
  have hreserveField : leField c.bytes 13 2 = c.reserve := leField_of_bytes rfl (by omega)
  have hceilingField : leField c.bytes 7 4 = c.ceiling := leField_of_bytes rfl (by omega)
  have hcode : BitVec.ofNat 16 (leField c.bytes 1 2) = c.code := word_of_bytes rfl rfl
  have hmask : BitVec.ofNat 16 (leField c.bytes 3 2) = c.mask := word_of_bytes rfl rfl
  have hvalid : (byteAt c.bytes 0 == 1#8) = c.valid := flagByte_eq_one c.valid
  have hkey : Fin.ofNat 8 c.keyIndex.val = c.keyIndex := Fin.ext (Nat.mod_eq_of_lt c.keyIndex.isLt)
  rw [parseClass, classOfBytes, hkeyIndex, hlowField, hreserveField, hceilingField, hcode, hmask, hvalid, hkey]
  exact if_pos ⟨flagByte_toNat_le c.valid, by omega, hlow, hreserve⟩

theorem settingInRange_lt {i v : Nat} (h : settingInRange i v = true) : v < 4294967296 := by
  have hranges : ∀ k : Fin 24, settingRange[k].2 < 4294967296 := by decide
  unfold settingInRange at h
  split at h
  · rename_i r hr
    obtain ⟨hi, rfl⟩ := Vector.getElem?_eq_some_iff.mp hr
    obtain ⟨_, hv⟩ := Bool.and_eq_true_iff.mp h
    exact (of_decide_eq_true hv).trans_lt (hranges ⟨i, hi⟩)
  · cases h

theorem parseSetting_form {i v : Nat} (h : settingInRange i v = true) : parseSetting i (settingForm v) = some v := by
  have hfield : leField (settingForm v) 0 4 = v := leField_of_bytes rfl (settingInRange_lt h)
  rw [parseSetting, hfield]
  exact if_pos h

/-! ### An entry of the list -/

/-- An entry as a save writes it: its amounts fit their fields, and it has neither carried debit nor refurbishment finding (R134). -/
def Entry.saved (e : Entry) : Prop :=
  (∀ l, e.lastLevel = some l → l ≤ 4294967295) ∧ e.unsettled ≤ 4294967295
    ∧ (∀ i, e.inDoubt = some i → i.amount ≤ 4294967295 ∧ i.preLevel ≤ 4294967295) ∧ e.count ≤ 255 ∧ e.carried = none
    ∧ e.refurbished = false

theorem presentField_length (v : Option Nat) : (presentField v).length = 5 := by cases v <;> rfl

theorem inDoubtBytes_length (i : Option InDoubt) : (inDoubtBytes i).length = 9 := by cases i <;> rfl

theorem form_length (e : Entry) : e.form.length = 28 := by
  simp [Entry.form, leBytes_length, presentField_length, inDoubtBytes_length]

theorem parsePresent_form {v : Option Nat} (h : ∀ l, v = some l → l ≤ 4294967295) (rest : List Byte) :
    parsePresent (presentField v ++ rest) = v := by
  cases v with
  | none => rfl
  | some l =>
    have hfield : leField (presentField (some l) ++ rest) 1 4 = l := leField_of_bytes rfl (Nat.lt_succ_of_le (h l rfl))
    exact (if_pos rfl).trans (congrArg some hfield)

theorem parseResidence_form (n : Option Slot) : parseResidence (residenceByte n) = n := by
  cases n with
  | none => rfl
  | some n => revert n; decide

theorem residenceByte_allowed (n : Option Slot) : (residenceByte n).toNat < 12 ∨ residenceByte n = 0xFF#8 := by
  cases n with
  | none => exact .inr rfl
  | some n => revert n; decide

theorem flags_read (e : Entry) :
    e.flags.toNat ≤ 3 ∧ e.flags.getLsbD 0 = e.exhausted ∧ e.flags.getLsbD 1 = e.suspect := by
  unfold Entry.flags
  cases e.exhausted <;> cases e.suspect <;> decide

theorem leField_drop (bs : List Byte) (m o k : Nat) : leField bs (m + o) k = leField (bs.drop m) o k := by
  rw [leField, leField, List.drop_drop]

theorem byteAt_drop (bs : List Byte) (m o : Nat) : byteAt bs (m + o) = byteAt (bs.drop m) o := by
  simp [byteAt, List.getD_eq_getElem?_getD]

theorem inDoubt_read {i : Option InDoubt} (h : ∀ d, i = some d → d.amount ≤ 4294967295 ∧ d.preLevel ≤ 4294967295)
    (rest : List Byte) :
    (byteAt (inDoubtBytes i ++ rest) 0).toNat ≤ 1
      ∧ (if byteAt (inDoubtBytes i ++ rest) 0 = 1#8 then
          some (InDoubt.mk (leField (inDoubtBytes i ++ rest) 1 4) (leField (inDoubtBytes i ++ rest) 5 4)) else none) = i := by
  cases i with
  | none => exact ⟨Nat.zero_le 1, rfl⟩
  | some d =>
    obtain ⟨hamount, hlevel⟩ := h d rfl
    have hamountField : leField (inDoubtBytes (some d) ++ rest) 1 4 = d.amount := leField_of_bytes rfl (Nat.lt_succ_of_le hamount)
    have hlevelField : leField (inDoubtBytes (some d) ++ rest) 5 4 = d.preLevel := leField_of_bytes rfl (Nat.lt_succ_of_le hlevel)
    rw [hamountField, hlevelField]
    exact ⟨le_refl 1, if_pos rfl⟩

/-- The last three bytes of an entry's form: the count, the flags and the residence (R155). -/
def Entry.tail (e : Entry) : List Byte := [BitVec.ofNat 8 e.count, e.flags, residenceByte e.residence]

/-- The parts of an entry's form, from where each stands (R155). -/
theorem form_parts (e : Entry) :
    e.form.drop 7 = presentField e.lastLevel ++ (leBytes 4 e.unsettled ++ (inDoubtBytes e.inDoubt ++ e.tail))
      ∧ e.form.drop 12 = leBytes 4 e.unsettled ++ (inDoubtBytes e.inDoubt ++ e.tail)
      ∧ e.form.drop 16 = inDoubtBytes e.inDoubt ++ e.tail ∧ e.form.drop 25 = e.tail := by
  have h7 : e.form.drop 7 = presentField e.lastLevel ++ (leBytes 4 e.unsettled ++ (inDoubtBytes e.inDoubt ++ e.tail)) := by
    simp only [Entry.form, Entry.tail, List.append_assoc]
    rfl
  have h12 : e.form.drop 12 = leBytes 4 e.unsettled ++ (inDoubtBytes e.inDoubt ++ e.tail) := by
    rw [show 12 = 7 + 5 from rfl, ← List.drop_drop, h7, List.drop_left' (presentField_length _)]
  have h16 : e.form.drop 16 = inDoubtBytes e.inDoubt ++ e.tail := by
    rw [show 16 = 12 + 4 from rfl, ← List.drop_drop, h12, List.drop_left' (leBytes_length _ _)]
  refine ⟨h7, h12, h16, ?_⟩
  rw [show 25 = 16 + 9 from rfl, ← List.drop_drop, h16, List.drop_left' (inDoubtBytes_length _)]

theorem parseEntry_form (i : Nat) {e : Entry} (h : e.saved) : parseEntry i e.form = some e := by
  obtain ⟨hlevel, hunsettled, hdoubt, hcount, hcarried, hrefurbished⟩ := h
  obtain ⟨h7, h12, h16, h25⟩ := form_parts e
  have hpresent : (byteAt e.form 7).toNat ≤ 1 := by
    rw [byteAt_drop e.form 7 0, h7]
    cases e.lastLevel with
    | none => exact Nat.zero_le 1
    | some l => exact le_refl 1
  have hserial : BitVec.ofNat 32 (leField e.form 0 4) = e.serial := word_of_bytes rfl rfl
  have hproduct : BitVec.ofNat 16 (leField e.form 4 2) = e.product := word_of_bytes rfl rfl
  have hlevelField : parsePresent (e.form.drop 7) = e.lastLevel := by rw [h7, parsePresent_form hlevel]
  have hunsettledField : leField e.form 12 4 = e.unsettled := leField_of_bytes (by rw [h12]; rfl) (Nat.lt_succ_of_le hunsettled)
  obtain ⟨hflag, hdoubtField⟩ := inDoubt_read hdoubt e.tail
  rw [← h16, ← byteAt_drop] at hflag
  rw [← h16, ← byteAt_drop, ← leField_drop, ← leField_drop] at hdoubtField
  have htail (o : Nat) : byteAt e.form (25 + o) = byteAt e.tail o := by rw [byteAt_drop, h25]
  have hcountField : (byteAt e.form 25).toNat = e.count := (congrArg BitVec.toNat (htail 0)).trans (toNat_byte (by omega))
  have hflags : byteAt e.form 26 = e.flags := htail 1
  have hresidence : byteAt e.form 27 = residenceByte e.residence := htail 2
  obtain ⟨hflagsLe, hexhausted, hsuspect⟩ := flags_read e
  rw [parseEntry, hflags, hresidence, if_pos ⟨hpresent, hflag, hflagsLe, residenceByte_allowed _⟩, hserial, hproduct, hlevelField,
    hunsettledField, hdoubtField, hcountField, hexhausted, hsuspect, parseResidence_form]
  exact congrArg some (by rw [← hcarried, ← hrefurbished]; rfl)

/-! ### The sections -/

/-- KEYS is read back (R158, R179). -/
theorem parseKeys_bytes (k : Vector Key 8) : parseKeys (keysBytes k) = some k := by
  have hlength : (keysBytes k).length = 128 := (flatMap_length (size := 16) (fun _ => rfl) k.toList).trans (by simp)
  rw [parseKeys, if_pos hlength]
  exact parseTable_forms (form := Key.bytes) (rest := []) defaultKeys k (fun _ => rfl) (fun i => parseKey_form i.val _)
    (List.append_nil _).symm

/-- CONFIG is read back where its classes and settings lie in their ranges (R158, R159, R179). -/
theorem parseConfig_bytes {c : ConfigImage} (hclasses : ∀ k : Fin 16, c.classes[k].inRange)
    (hsettings : ∀ i : Fin 24, settingInRange i.val c.settings[i] = true) (hagree : settingsAgree c.settings = true) :
    parseConfig c.bytes = some c := by
  have hlength {α : Type} {n size : Nat} {form : α → List Byte} (h : ∀ x, (form x).length = size) (v : Vector α n) :
      (v.toList.flatMap form).length = size * n := by rw [flatMap_length h, Vector.length_toList]
  have hpolicy := hlength (size := 1) (form := actionForm) (fun _ => rfl) c.policy
  have hclass := hlength (size := 15) (form := ClassEntry.bytes) (fun _ => rfl) c.classes
  have hsocket := hlength (size := 2) (form := SocketConfig.bytes) (fun _ => rfl) c.sockets
  have hsetting := hlength (size := 4) (form := settingForm) (leBytes_length 4) c.settings
  have hbytes : c.bytes = c.policy.toList.flatMap actionForm ++ (c.classes.toList.flatMap ClassEntry.bytes
      ++ (c.sockets.toList.flatMap SocketConfig.bytes ++ (c.settings.toList.flatMap settingForm ++ c.locks.bytes))) := by
    simp only [ConfigImage.bytes, List.append_assoc]
  have h9 : c.bytes.drop 9 = c.classes.toList.flatMap ClassEntry.bytes
      ++ (c.sockets.toList.flatMap SocketConfig.bytes ++ (c.settings.toList.flatMap settingForm ++ c.locks.bytes)) := by
    rw [hbytes, List.drop_left' hpolicy]
  have h249 : c.bytes.drop 249
      = c.sockets.toList.flatMap SocketConfig.bytes ++ (c.settings.toList.flatMap settingForm ++ c.locks.bytes) := by
    rw [show 249 = 9 + 240 from rfl, ← List.drop_drop, h9, List.drop_left' hclass]
  have h273 : c.bytes.drop 273 = c.settings.toList.flatMap settingForm ++ c.locks.bytes := by
    rw [show 273 = 249 + 24 from rfl, ← List.drop_drop, h249, List.drop_left' hsocket]
  have h369 : c.bytes.drop 369 = c.locks.bytes := by
    rw [show 369 = 273 + 96 from rfl, ← List.drop_drop, h273, List.drop_left' hsetting]
  have htotal : c.bytes.length = 374 := by
    simp [hbytes, hpolicy, hclass, hsocket, hsetting, Locks.bytes]
  have hlocks : parseTable (Vector.replicate 5 false) 1 369 parseFlag c.bytes
      = some #v[c.locks.policy, c.locks.classes, c.locks.keys, c.locks.sockets, c.locks.settings] :=
    parseTable_forms (form := fun b => [flagByte b]) (rest := []) _ _ (fun _ => rfl) (fun i => parseFlag_form i.val _)
      (h369.trans (List.append_nil _).symm)
  rw [parseConfig, if_pos htotal,
    parseTable_forms (bs := c.bytes) (form := actionForm) (offset := 0) defaultPolicy c.policy (fun _ => rfl)
      (fun i => parseAction_form i.val _) hbytes,
    parseTable_forms (form := ClassEntry.bytes) defaultClasses c.classes (fun _ => rfl)
      (fun i => parseClass_form i.val (hclasses i)) h9,
    parseTable_forms (form := SocketConfig.bytes) defaultSockets c.sockets (fun _ => rfl)
      (fun i => parseSocket_form i.val _) h249,
    parseTable_forms (form := settingForm) defaultSettings c.settings (leBytes_length 4)
      (fun i => parseSetting_form (hsettings i)) h273, hlocks]
  exact if_pos hagree

/-- KNOWN is read back where it holds a list that R133 allows, as a save writes it (R134, R179). -/
theorem parseKnown_bytes {k : KnownImage} (hnodup : (k.entries.map Entry.serial).Nodup) (hcount : k.entries.length ≤ listCapacity)
    (hwrites : k.writeCount ≤ 65535) (hsaved : ∀ e ∈ k.entries, e.saved) : parseKnown k.bytes = some k := by
  have hcount' : k.entries.length ≤ 48 := hcount
  have hfirst : (byteAt k.bytes 0).toNat = k.entries.length := toNat_byte (by omega)
  have hforms : (k.entries.flatMap Entry.form).length = 28 * k.entries.length := flatMap_length form_length k.entries
  have h1 : k.bytes.drop 1 = k.entries.flatMap Entry.form ++ (leBytes 4 k.seed.toNat ++ leBytes 2 k.writeCount) :=
    List.append_assoc _ _ _
  have hseed : k.bytes.drop (1 + 28 * k.entries.length) = leBytes 4 k.seed.toNat ++ leBytes 2 k.writeCount := by
    rw [← List.drop_drop, h1, List.drop_left' hforms]
  have hlength : k.bytes.length = 7 + 28 * k.entries.length := by
    simp only [KnownImage.bytes, List.length_cons, List.length_append, hforms, leBytes_length]
    omega
  have hentries := parseEntries_forms (parse := parseEntry) k.entries (fun e _ => form_length e) 0
    (fun j hj => parseEntry_form _ (hsaved _ (List.getElem_mem hj))) (leBytes 4 k.seed.toNat ++ leBytes 2 k.writeCount)
  have hseedField : BitVec.ofNat 32 (leField k.bytes (1 + 28 * k.entries.length) 4) = k.seed :=
    word_of_bytes (by rw [hseed]; rfl) rfl
  have hwritesField : leField k.bytes (5 + 28 * k.entries.length) 2 = k.writeCount := by
    have hoffset : 5 + 28 * k.entries.length = 1 + 28 * k.entries.length + 4 := by omega
    rw [hoffset, leField_drop, hseed]
    exact leField_of_bytes rfl (by omega)
  unfold parseKnown
  dsimp only
  rw [hfirst, if_pos ⟨hcount, hlength⟩, h1, hentries, hseedField, hwritesField]
  exact if_pos hnodup

end Sys2Proof.Machine
end

section
/-! PROOFS. The Store's saves and the copies of parking (R142, R175, R176, R178, R180; log entries 2, 4, 10; O60). The sections read
back are those of the section above; the copies of stage 2 are told entry by entry, from bindings and residences that agree. -/

namespace Sys2Proof.Machine

/-! ### What is written is loaded -/

theorem configImage_bytes (t : Tables) :
    (configImage t).bytes =
      (t.sent .policy ++ t.sent .classes ++ t.sent .sockets ++ t.sent .settings).flatten
        ++ [t.locks.policy, t.locks.classes, t.locks.keys, t.locks.sockets, t.locks.settings].map fun b =>
            if b then 1#8 else 0#8 := by
  simp only [ConfigImage.bytes, configImage, Tables.sent, List.flatMap_def, List.flatten_append]
  rfl

/-- A list that R133 allows is saved as a KNOWN that is loaded (R134, R179). -/
theorem known_loaded {k : KnownImage} (hnodup : (k.entries.map Entry.serial).Nodup) (hcount : k.entries.length ≤ 48)
    (hwrites : k.writeCount ≤ 65535)
    (hentries : ∀ e ∈ k.entries,
      e.lastLevel.all (fun l => decide (l ≤ 4294967295)) = true ∧ e.unsettled ≤ 4294967295
        ∧ e.inDoubt.all (fun i => decide (i.amount ≤ 4294967295 ∧ i.preLevel ≤ 4294967295)) = true
        ∧ e.count ≤ 255 ∧ e.carried = none ∧ e.refurbished = false) :
    (Section.holding k.bytes).judge parseKnown = .loaded k := by
  refine Section.judge_holding (parseKnown_bytes hnodup hcount hwrites fun e he => ?_)
  obtain ⟨hlevel, hunsettled, hdoubt, hrest⟩ := hentries e he
  refine ⟨fun l hl => ?_, hunsettled, fun i hi => ?_, hrest⟩
  · rw [hl] at hlevel
    exact of_decide_eq_true hlevel
  · rw [hi] at hdoubt
    exact of_decide_eq_true hdoubt

theorem keys_loaded (k : Vector Key 8) : (Section.holding (keysBytes k)).judge parseKeys = .loaded k :=
  Section.judge_holding (parseKeys_bytes k)

/-- Tables in their ranges are saved as a CONFIG that is loaded (R158, R159, R179). -/
theorem config_loaded {t : Tables} (ht : t.sound) :
    (Section.holding (configImage t).bytes).judge parseConfig = .loaded (configImage t) := by
  obtain ⟨_, _, _, _, hsettings, hagree, hclasses⟩ := ht
  exact Section.judge_holding (parseConfig_bytes hclasses hsettings hagree)

/-! ### The commands of a save -/

theorem takeRequest_saveStore (s : State) (r : Request) :
    s.takeRequest r (bare State.saveStore) =
      if r.args ≠ [] then s.replied r s.popRequest .range
      else if s.store.save.isSome then s.replied r s.popRequest .busy
      else s.replied r s.popRequest.startSave .queued := by
  by_cases hargs : r.args = []
  · have hsave : bare State.saveStore s.popRequest r.args = s.popRequest.saveStore := if_pos hargs
    rw [if_neg (not_not.mpr hargs)]
    split
    · exact takeRequest_replied (hsave.trans (if_pos ‹_›)) rfl
    · exact takeRequest_replied (hsave.trans (if_neg ‹_›)) rfl
  · rw [if_pos hargs]
    exact takeRequest_replied (if_neg hargs) rfl

theorem exec_saveStore {s : State} {r : Request} (hr : s.run = .running) (ho : s.offers r) (hc : r.code = 12#8) :
    exec .saveStore s = .next (s.takeRequest r (bare State.saveStore)).finish.serve := by
  have hrow : r.row = .saveStore := by rw [Request.row, hc]; rfl
  have hact : State.actOn r.code = bare State.saveStore := by rw [hc]; rfl
  rw [← hrow, exec_row_takes hr ho, hact]

theorem exec_sectionWritten {s : State} (hr : s.run = .running) :
    exec .sectionWritten s = .next (s.onStore Store.sectionWritten) :=
  congrArg Host.Outcome.next (whenRunning_running hr _)

/-- SAVE_COMPLETE while KNOWN is written completes the save; else it changes nothing (R180; log entry 2). -/
theorem exec_saveComplete {s : State} (hr : s.run = .running) :
    exec .saveComplete s = .next
      (match s.store.save with
        | some v => if v.writing = .known then ((s.onStore fun t => t.saveCompleted v).parkOnSave).sendNext else s
        | none => s) :=
  congrArg Host.Outcome.next (whenRunning_running hr _)

theorem exec_parkingCopies {s : State} (hr : s.run = .running) : exec .parkingCopies s = .next s.endStage1 :=
  congrArg Host.Outcome.next (whenRunning_running hr _)

/-! ### The copies of stage 2 of parking -/

/-- The in-doubt part that a commit record gives its entry (R142). -/
def CommitPhase.inDoubtPart : CommitPhase → Option InDoubt
  | .inDoubt d pre => some ⟨d, pre⟩
  | _ => none

/-- An entry after the copies of a slot: the slot's account, and its in-doubt record where it has one (R131, R142). -/
def State.parkedCopy (s : State) (n : Slot) (e : Entry) : Entry :=
  { parkedEntry (s.slot n).level (s.slot n).pendingDebit e with inDoubt := (s.commit n).phase.inDoubtPart.or e.inDoubt }

/-- An entry after the copies of some slots: changed if it is IN SLOT one of them. -/
def State.parkedAmong (s : State) (ns : List Slot) (e : Entry) : Entry :=
  match e.residence with
  | some n => if n ∈ ns then s.parkedCopy n e else e
  | none => e

theorem onBoundEntry_of_bound {s : State} {n : Slot} {x : Word} (h : s.boundSerial n = some x) (f : Entry → Entry) :
    s.onBoundEntry n f = s.onEntry x f := by
  rw [State.onBoundEntry, h]

/-- Two changes of the bound entry that leave its serial are one change. -/
theorem onBoundEntry_twice (s : State) (n : Slot) {f g : Entry → Entry} (hf : ∀ e, (f e).serial = e.serial) :
    (s.onBoundEntry n f).onBoundEntry n g = s.onBoundEntry n fun e => g (f e) := by
  cases hb : s.boundSerial n with
  | none => simp only [State.onBoundEntry, hb]
  | some x =>
    have hkept : (s.onEntry x f).boundSerial n = some x := hb
    rw [onBoundEntry_of_bound hb, onBoundEntry_of_bound hkept, onBoundEntry_of_bound hb]
    simp only [State.onEntry, State.onKnown, List.map_map]
    congr 1
    refine List.map_congr_left fun e _ => ?_
    by_cases hx : e.serial = x <;> simp [hx, hf]

theorem parkSlot_onBoundEntry (s : State) (n : Slot) : s.parkSlot n = s.onBoundEntry n (s.parkedCopy n) := by
  unfold State.parkSlot State.parkedCopy
  cases (s.commit n).phase with
  | inDoubt d pre => exact onBoundEntry_twice s n fun _ => rfl
  | _ => rfl

/-- Where bindings and residences agree, the entry bound to a slot is the one IN SLOT it (R133). -/
theorem onBoundEntry_residence {s : State} (hs : s.bindingsAgree) (n : Slot) (f : Entry → Entry) :
    s.onBoundEntry n f = s.onKnown fun l => l.map fun e => if e.residence = some n then f e else e := by
  obtain ⟨hbound, hresident, hserials, _⟩ := hs
  cases hb : s.boundSerial n with
  | none =>
    have hout (e : Entry) (he : e ∈ s.known) : e.residence ≠ some n := fun hn => by
      rw [hresident e he n hn] at hb
      cases hb
    have hsame : (s.known.map fun e => if e.residence = some n then f e else e) = s.known :=
      (List.map_congr_left fun e he => if_neg (hout e he)).trans (List.map_id' _)
    rw [State.onBoundEntry, hb, State.onKnown, hsame]
  | some x =>
    obtain ⟨resident, hmem, hserial, hresidence⟩ := hbound n x hb
    have hiff (e : Entry) (he : e ∈ s.known) : e.serial = x ↔ e.residence = some n := by
      constructor
      · intro hx
        rwa [List.inj_on_of_nodup_map hserials he hmem (hx.trans hserial.symm)]
      · intro hn
        exact Option.some.inj ((hresident e he n hn).symm.trans hb)
    rw [onBoundEntry_of_bound hb, State.onEntry, State.onKnown, State.onKnown]
    congr 1
    exact List.map_congr_left fun e he => if_congr (hiff e he) rfl rfl

theorem bindingsAgree_parkSlot {s : State} (hs : s.bindingsAgree) (n : Slot) : (s.parkSlot n).bindingsAgree :=
  (moves_parkSlot s n).bindingsAgree hs

/-- The copies of the slots, one after the other, change each entry by its own residence (R142). -/
theorem parkSlots_known {s : State} (hs : s.bindingsAgree) {ns : List Slot} (hns : ns.Nodup) :
    ns.foldl State.parkSlot s = s.onKnown fun l => l.map (s.parkedAmong ns) := by
  induction ns generalizing s with
  | nil =>
    have hsame (e : Entry) : s.parkedAmong [] e = e := by unfold State.parkedAmong; split <;> rfl
    have : s.known.map (s.parkedAmong []) = s.known := (List.map_congr_left fun e _ => hsame e).trans (List.map_id' _)
    rw [List.foldl_nil, State.onKnown, this]
  | cons n ns ih =>
    obtain ⟨hn, hrest⟩ := List.nodup_cons.mp hns
    have hfirst := (parkSlot_onBoundEntry s n).trans (onBoundEntry_residence hs n _)
    rw [List.foldl_cons, ih (bindingsAgree_parkSlot hs n) hrest, hfirst]
    simp only [State.onKnown, List.map_map]
    congr 1
    refine List.map_congr_left fun e _ => ?_
    cases hres : e.residence with
    | none => simp [State.parkedAmong, hres]
    | some m =>
      by_cases hm : m = n
      · subst hm
        have hcopy : (s.parkedCopy m e).residence = some m := hres
        simp [State.parkedAmong, hres, hcopy, hn]
      · simp [State.parkedAmong, hres, hm]
        rfl

/-- Every commit record is IDLE or IN DOUBT, by the codes of the phases (R131, R155). -/
theorem allSettled_iff_code (s : State) :
    s.commits.allSettled = true ↔ ∀ n : Slot, (s.commit n).phase.code = 0#8 ∨ (s.commit n).phase.code = 3#8 := by
  rw [allSettled_iff]
  refine forall_congr' fun n => ?_
  cases (s.commit n).phase <;> simp [CommitPhase.code]

theorem parkedAmong_all (s : State) (e : Entry) :
    s.parkedAmong allSlots e = (e.residence.map fun n => s.parkedCopy n e).getD e := by
  unfold State.parkedAmong
  cases e.residence with
  | none => rfl
  | some n => exact if_pos (mem_allSlots n)

/-- The end of stage 2 with a list: the parking save starts, or waits for the save that runs (R176). -/
def State.copied (s : State) (l : List Entry) : State :=
  let v := s.onKnown fun _ => l
  if s.store.save.isSome then v.setPark (.parking .waitingSave) else v.startSave.setPark (.parking .saving)

/-- Stage 1 of parking ends with the copies, once every commit record is settled (R131, R176). -/
theorem endStage1_copies {s : State} (hs : s.bindingsAgree) :
    s.endStage1 =
      if s.decoder.park = .parking .commits ∧ s.commits.allSettled = true then
        s.copied (s.known.map fun e => (e.residence.map fun n => s.parkedCopy n e).getD e)
      else s := by
  rw [State.endStage1, State.parkingCopies, parkSlots_known hs allSlots_nodup, ← funext (parkedAmong_all s)]
  rfl

/-! ### O60 -/

/-- Settles O60: the round trip of the sections, and the four commands of a save and of parking, each by its stage. -/
theorem savesWriteTheirSnapshot : Obligations.SavesWriteTheirSnapshot := by
  unfold Obligations.SavesWriteTheirSnapshot
  refine ⟨fun t => ⟨configImage_bytes t, rfl, keys_loaded t.keys, fun ht => ?_⟩, fun k => ⟨rfl, known_loaded⟩,
    fun s hr => ⟨fun r ho hc => ?_, ?_, ?_, fun hs => ?_⟩⟩
  · have hloaded := config_loaded ht
    rwa [configImage_bytes] at hloaded
  · rw [exec_saveStore hr ho hc, takeRequest_saveStore]
    split
    · rfl
    · split <;> rfl
  · rw [exec_sectionWritten hr]
    rcases hsave : s.store.save with _ | ⟨config, keys, known, _ | _ | _⟩ <;>
      simp only [State.onStore, Store.sectionWritten, hsave] <;> rfl
  · rw [exec_saveComplete hr]
    rcases hsave : s.store.save with _ | ⟨config, keys, known, _ | _ | _⟩
    · rfl
    · rfl
    · rfl
    · have hpark : (s.onStore fun t => t.saveCompleted ⟨config, keys, known, .known⟩).decoder.park = s.decoder.park := rfl
      dsimp only
      rw [if_pos rfl, State.parkOnSave, hpark]
      rcases s.decoder.park with _ | (_ | _ | _) | _ <;> rfl
  · rw [exec_parkingCopies hr, endStage1_copies hs]
    refine congrArg Host.Outcome.next (if_congr (and_congr_right fun _ => allSettled_iff_code s) ?_ rfl)
    refine congrArg s.copied (List.map_congr_left fun e _ => ?_)
    split
    · rename_i hres
      rw [hres]
      rfl
    · rename_i n hres
      rw [show (e.residence.map fun n => s.parkedCopy n e).getD e = s.parkedCopy n e by rw [hres]; rfl]
      cases hphase : (s.commit n).phase <;> simp only [State.parkedCopy, hphase] <;> rfl

end Sys2Proof.Machine
end
